-- ==== Sys2Proof/Word.lean ====
section
/-! DEFINITION. The widths of the block's values (spec/00_scope.md R5, R6).

Every value of the block is an unsigned bit field (00_scope.md section 5), so each is a bit vector
of the spec's own width. -/

namespace Sys2Proof

/-- A byte: the CRC register, the transmit bytes, the register command byte (R5: CRC_WIDTH, CMD_WIDTH). -/
abbrev Byte := BitVec 8

/-- A 7-bit device address (R5: ADDR_WIDTH). -/
abbrev Addr := BitVec 7

/-- A 16-bit register value (R5: VALUE_WIDTH). -/
abbrev Value := BitVec 16

/-- A 32-bit command word `cw` (R6, 30_encoding.md R45). -/
abbrev Word := BitVec 32

/-- The 4-bit index of the register read port (R6). -/
abbrev ReadIndex := BitVec 4

end Sys2Proof
end

