-- ==== Sys2Proof/Assembly.lean ====
section
/-! DEFINITION. Assembler lines and rejection reasons (spec/30_encoding.md R49, R52, R53): the plain data of them.

The checks are in WellFormed.lean, the expansion and the text form in Machine/Assembler.lean. -/

namespace Sys2Proof

/-- Why a word is illegal (30_encoding.md R49). The block records only STATUS.ILL; the reason is the
decoder's, for a reader (log 12). -/
inductive Illegal where
  /-- The opcode is one of 0x7 to 0xF. -/
  | reservedOpcode (op : BitVec 4)
  /-- The opcode is one of 0x0 to 0x6 and a reserved bit of its format is 1. -/
  | reservedBits (op : BitVec 4)
  deriving DecidableEq, Repr

/-- One line of assembly (30_encoding.md R52) or one pseudo-instruction (R53), its numbers as written. -/
inductive AsmLine where
  | nop
  | crcClear
  | crcByte (d : Nat)
  | setAddr (a : Nat)
  | encWrite (c v : Nat)
  | encRead (c : Nat)
  /-- `DEC_READ l, h, k`: E = 0. -/
  | decRead (l h k : Nat)
  /-- `DEC_READ.X l, h, k`: E = 1. -/
  | decReadX (l h k : Nat)
  /-- `CRC_OF b1, ..., bn`, n ≥ 0. -/
  | crcOf (bs : List Nat)
  /-- `CRC_BYTES b1, ..., bn`, n ≥ 1. -/
  | crcBytes (bs : List Nat)
  /-- `XFER_FAIL`. -/
  | xferFail
  /-- `WORD w`: any 32-bit value, legal or not. -/
  | word (w : Nat)
  deriving DecidableEq, Repr

end Sys2Proof
end

