-- ==== Sys2Proof/Syntax.lean ====
section
/-! DEFINITION. The commands (spec/30_encoding.md R46 to R48, spec/opcode_table.json): one constructor per row. -/

namespace Sys2Proof

/-- A command. The operand widths are the field widths of 30_encoding.md R47, so every term fits its
encoding; the range checks of the assembler are in `WellFormed`. -/
inductive Instr where
  /-- NOP, format Z (42_control.md R90). -/
  | nop
  /-- CRC_CLEAR, format Z (40_crc.md R62). -/
  | crcClear
  /-- CRC_BYTE D, format B (40_crc.md R63). -/
  | crcByte (d : Byte)
  /-- SET_ADDR A, format A (41_frame.md R70). -/
  | setAddr (a : Addr)
  /-- ENC_WRITE C, V, format W (41_frame.md R71). -/
  | encWrite (c : Byte) (v : Value)
  /-- ENC_READ C, format Q (41_frame.md R72). -/
  | encRead (c : Byte)
  /-- DEC_READ L, H, K, format R; `e` is the transport-failure flag E, set by DEC_READ.X (41_frame.md R73). -/
  | decRead (e : Bool) (l h k : Byte)
  deriving DecidableEq, Repr

end Sys2Proof
end

