-- ==== Sys2Proof/Decode.lean ====
section
/-! DEFINITION. The decoder and the encoder (spec/30_encoding.md R45 to R51, spec/opcode_table.json). -/

namespace Sys2Proof

/-- `OP = cw[31:28]` (R45). -/
def opcode (cw : Word) : BitVec 4 := cw.extractLsb' 28 4

/-- `cw[7:0]`: D of CRC_BYTE, L of DEC_READ (R47). -/
def fieldLow (cw : Word) : Byte := cw.extractLsb' 0 8

/-- `H = cw[15:8]` (R47). -/
def fieldHigh (cw : Word) : Byte := cw.extractLsb' 8 8

/-- `cw[23:16]`: C of ENC_WRITE and ENC_READ, K of DEC_READ (R47). -/
def fieldTop (cw : Word) : Byte := cw.extractLsb' 16 8

/-- `A = cw[6:0]` (R47). -/
def fieldAddr (cw : Word) : Addr := cw.extractLsb' 0 7

/-- `V = cw[15:0]` (R47). -/
def fieldValue (cw : Word) : Value := cw.extractLsb' 0 16

/-- `E = cw[27]` (R47). -/
def fieldErr (cw : Word) : Bool := cw.getLsbD 27

/-- The whole decoder, case by case as R51 writes it: total, and rejecting an illegal word by name. -/
def decode (cw : Word) : Except Illegal Instr :=
  match opcode cw with
  | 0x0#4 => if cw.extractLsb' 0 28 = 0#28 then .ok .nop else .error (.reservedBits 0x0#4)
  | 0x1#4 => if cw.extractLsb' 0 28 = 0#28 then .ok .crcClear else .error (.reservedBits 0x1#4)
  | 0x2#4 =>
    if cw.extractLsb' 8 20 = 0#20 then .ok (.crcByte (fieldLow cw)) else .error (.reservedBits 0x2#4)
  | 0x3#4 =>
    if cw.extractLsb' 7 21 = 0#21 then .ok (.setAddr (fieldAddr cw)) else .error (.reservedBits 0x3#4)
  | 0x4#4 =>
    if cw.extractLsb' 24 4 = 0#4 then .ok (.encWrite (fieldTop cw) (fieldValue cw))
    else .error (.reservedBits 0x4#4)
  | 0x5#4 =>
    if cw.extractLsb' 24 4 = 0#4 ∧ cw.extractLsb' 0 16 = 0#16 then .ok (.encRead (fieldTop cw))
    else .error (.reservedBits 0x5#4)
  | 0x6#4 =>
    if cw.extractLsb' 24 3 = 0#3 then
      .ok (.decRead (fieldErr cw) (fieldLow cw) (fieldHigh cw) (fieldTop cw))
    else .error (.reservedBits 0x6#4)
  | op => .error (.reservedOpcode op)

/-- A field of a word: the operand's bits from position `pos` up. -/
def placeField (pos : Nat) {w : Nat} (x : BitVec w) : Word := x.setWidth 32 <<< pos

/-- The word of a command: its opcode and its operands at the positions of its format (R46, R52). -/
def encode : Instr → Word
  | .nop => 0x00000000#32
  | .crcClear => 0x10000000#32
  | .crcByte d => 0x20000000#32 ||| placeField 0 d
  | .setAddr a => 0x30000000#32 ||| placeField 0 a
  | .encWrite c v => 0x40000000#32 ||| placeField 16 c ||| placeField 0 v
  | .encRead c => 0x50000000#32 ||| placeField 16 c
  | .decRead e l h k =>
    0x60000000#32 ||| placeField 27 (BitVec.ofBool e) ||| placeField 16 k ||| placeField 8 h ||| placeField 0 l

/-- The mnemonic of a command, as the opcode map spells it (R48). -/
def mnemonic : Instr → String
  | .nop => "NOP"
  | .crcClear => "CRC_CLEAR"
  | .crcByte _ => "CRC_BYTE"
  | .setAddr _ => "SET_ADDR"
  | .encWrite _ _ => "ENC_WRITE"
  | .encRead _ => "ENC_READ"
  | .decRead _ _ _ _ => "DEC_READ"

/-- The mask of a command's row of the opcode map (R48). -/
def rowMask : Instr → Word
  | .nop => 0xFFFFFFFF#32
  | .crcClear => 0xFFFFFFFF#32
  | .crcByte _ => 0xFFFFFF00#32
  | .setAddr _ => 0xFFFFFF80#32
  | .encWrite _ _ => 0xFF000000#32
  | .encRead _ => 0xFF00FFFF#32
  | .decRead _ _ _ _ => 0xF7000000#32

/-- The match value of a command's row of the opcode map (R48). -/
def rowMatch : Instr → Word
  | .nop => 0x00000000#32
  | .crcClear => 0x10000000#32
  | .crcByte _ => 0x20000000#32
  | .setAddr _ => 0x30000000#32
  | .encWrite _ _ => 0x40000000#32
  | .encRead _ => 0x50000000#32
  | .decRead _ _ _ _ => 0x60000000#32

/-- The word the host presents for a table row's `nbits` bits `w`: the command port takes whole 32-bit
words, bit 0 least significant (20_memory.md R36), and every bit above `nbits` is 0 (log 11). -/
def tableWord (nbits w : Nat) : Word := BitVec.ofNat 32 (w % 2 ^ nbits)

/-- The command the decoder reads from a table row's word; `none` where it refuses. -/
def decodeTableWord (nbits w : Nat) : Option Instr := (decode (tableWord nbits w)).toOption

end Sys2Proof
end

