-- ==== Sys2Proof/Config.lean ====
section
/-! DEFINITION. The parameters the source fixes, as named constants (spec/00_scope.md R5; 92_eei_decisions.md D25).

The spec calls these literals unaudited (93_implementation_defined.md I7): "If an audit corrects a
value, the model changes the constant, not a rule." UNVERIFIED; unsafe if a literal is wrong (log 6).
The block has no other configuration and no free value (R2): no result of a command is left open. -/

namespace Sys2Proof.Config

/-- CRC_WIDTH, in bits: the width of `Byte` and the number of shifts a step of the generator makes (R5, R60). -/
def crcWidth : Nat := 8

/-- CRC_POLY, the x^8 term implicit (R5). -/
def crcPoly : Byte := 0x07#8

/-- CRC_INIT (R5). -/
def crcInit : Byte := 0x00#8

/-- CRC_REFIN: no input reflection (R5). -/
def crcRefIn : Bool := false

/-- CRC_REFOUT: no output reflection (R5). -/
def crcRefOut : Bool := false

/-- CRC_XOROUT (R2, R5; 92_eei_decisions.md D18). -/
def crcXorOut : Byte := 0x00#8

/-- ADDR_WIDTH, in bits: the width of `Addr` (R5). -/
def addrWidth : Nat := 7

/-- DEFAULT_ADDR, the reset value of DEV_ADDR (R5, 10_state.md R12). -/
def defaultAddr : Addr := 0x0B#7

/-- CMD_WIDTH, in bits: the width of a register command byte (R5). -/
def cmdWidth : Nat := 8

/-- VALUE_WIDTH, in bits: the width of `Value` (R5). -/
def valueWidth : Nat := 16

/-- WRITE_WIRE_LEN: bytes on the wire of a write-word frame (R5). -/
def writeWireLen : Nat := 4

/-- READ_WRITE_LEN: bytes written in a read-word exchange (R5). -/
def readWriteLen : Nat := 1

/-- READ_READ_LEN: bytes read back in a read-word exchange (R5). -/
def readReadLen : Nat := 3

/-- WRITE_CRC_LEN: bytes checksummed in a write-word frame (R5). -/
def writeCrcLen : Nat := 4

/-- READ_CRC_LEN: bytes checksummed in a read-word exchange (R5). -/
def readCrcLen : Nat := 5

end Sys2Proof.Config
end

