-- ==== Sys2Proof/Machine/State.lean ====
section
/-! DEFINITION. The block's state and its reset (spec/10_state.md R10 to R22; 70_reset_and_hazards.md R120). -/

namespace Sys2Proof.Machine

/-- The block raises no trap and never stops (spec/60_exceptions.md R100), so there is no fault: nothing
raises one. Safe: no claim can rest on a stop (log 8). -/
inductive Fault where
  deriving DecidableEq, Repr

/-- Why a step is refused a meaning. -/
inductive Refusal where
  /-- Raised only by an arm of `exec` whose instruction has no meaning yet; no arm does (log 8). Safe. -/
  | notModelled (mnemonic : String)
  deriving DecidableEq, Repr

/-- STATUS.CAUSE (10_state.md R16). -/
inductive Cause where
  /-- NONE, 0b00: success, or no frame command since reset. -/
  | none
  /-- XFER, 0b01: transport failure reported by the host. -/
  | xfer
  /-- CHECKSUM, 0b10: the received checksum byte did not match. -/
  | checksum
  /-- SEQUENCE, 0b11: DEC_READ with no pending read request. -/
  | sequence
  deriving DecidableEq, Repr

/-- The block's whole architectural state (10_state.md R10). -/
structure Regs where
  /-- CRC, the running value of the generator (R11). -/
  crc : Byte
  /-- DEV_ADDR (R12). -/
  devAddr : Addr
  /-- STATUS.OK (R15). -/
  ok : Bool
  /-- STATUS.PEND (R18). -/
  pend : Bool
  /-- STATUS.ILL, sticky (R17). -/
  ill : Bool
  /-- STATUS.CAUSE (R16). -/
  cause : Cause
  /-- TX_LEN (R19). -/
  txLen : BitVec 3
  /-- RX_LEN (R19). -/
  rxLen : BitVec 2
  /-- TX0 (R19). -/
  tx0 : Byte
  /-- TX1 (R19). -/
  tx1 : Byte
  /-- TX2 (R19). -/
  tx2 : Byte
  /-- TX3 (R19). -/
  tx3 : Byte
  /-- VALUE (R20). -/
  value : Value
  /-- PEND_CMD (R18). -/
  pendCmd : Byte
  deriving DecidableEq, Repr

/-- The registers after reset (10_state.md R10, 70_reset_and_hazards.md R120). -/
def Regs.reset : Regs where
  crc := Config.crcInit
  devAddr := Config.defaultAddr
  ok := false
  pend := false
  ill := false
  cause := .none
  txLen := 0#3
  rxLen := 0#2
  tx0 := 0x00#8
  tx1 := 0x00#8
  tx2 := 0x00#8
  tx3 := 0x00#8
  value := 0x0000#16
  pendCmd := 0x00#8

/-- What the host presents to the block at one step: its reset input, and a word at its command port
if any (20_memory.md R30, R42). Both at once is possible (70_reset_and_hazards.md R120). -/
structure PortInput where
  resetIn : Bool
  command : Option Word
  deriving DecidableEq, Repr

/-- What the block does with one `PortInput`: nothing, a reset step, or a command step (00_scope.md R6). -/
inductive Event where
  | idle
  | reset
  | command (cw : Word)
  deriving DecidableEq, Repr

/-- The machine: the block's registers, and what the host is going to present, the next entry first.
`inputs` is the model's own field (DESIGN CHOICE, log 1): the host's side of the ports, no register of
the block, read by no command. -/
structure State extends Regs where
  inputs : List PortInput
  deriving DecidableEq, Repr

/-- The machine right after reset: every register at its reset value, nothing presented yet
(70_reset_and_hazards.md R120, R122; log 3). -/
def State.reset : State := { Regs.reset with inputs := [] }

end Sys2Proof.Machine
end

