-- ==== Sys2Proof/Machine/Flags.lean ====
section
/-! DEFINITION. STATUS: its fields' updates and its byte view (spec/10_state.md R14 to R18; 00_scope.md section 5). -/

namespace Sys2Proof.Machine

/-- The 2-bit code of STATUS.CAUSE (10_state.md R16). -/
def Cause.code : Cause → BitVec 2
  | .none => 0b00#2
  | .xfer => 0b01#2
  | .checksum => 0b10#2
  | .sequence => 0b11#2

/-- The STATUS byte, `{0b000, CAUSE[1:0], ILL, PEND, OK}` (10_state.md R14, 20_memory.md R31). -/
def statusByte (r : Regs) : Byte :=
  0b000#3 ++ r.cause.code ++ BitVec.ofBool r.ill ++ BitVec.ofBool r.pend ++ BitVec.ofBool r.ok

/-- `STATUS.OK <- ok; STATUS.CAUSE <- cause`: the two are always written together (10_state.md R16). -/
def State.setResult (s : State) (ok : Bool) (cause : Cause) : State :=
  { s with ok := ok, cause := cause }

/-- `STATUS.OK <- 1; STATUS.CAUSE <- NONE`. -/
def State.succeed (s : State) : State := s.setResult true .none

/-- `fail(cause)` (00_scope.md section 5). -/
def State.fail (s : State) (cause : Cause) : State := s.setResult false cause

/-- `STATUS.PEND <- p` (10_state.md R18). -/
def State.setPend (s : State) (p : Bool) : State := { s with pend := p }

/-- `STATUS.ILL <- 1` (10_state.md R17). -/
def State.setIll (s : State) : State := { s with ill := true }

end Sys2Proof.Machine
end

