-- ==== Sys2Proof/Machine/Operands.lean ====
section
/-! DEFINITION. The operand forms of the frame commands: byte order, address bytes, checksum buffers
(spec/10_state.md R13, R22; 20_memory.md R33, R34; 41_frame.md R71, R73). -/

namespace Sys2Proof.Machine

/-- `AW = {DEV_ADDR, 0b0}`, the write-direction address byte (10_state.md R13). -/
def addrWrite (a : Addr) : Byte := a ++ 0#1

/-- `AR = {DEV_ADDR, 0b1}`, the read-direction address byte (10_state.md R13). -/
def addrRead (a : Addr) : Byte := a ++ 1#1

/-- `V[7:0]`, the byte that travels first (20_memory.md R33). -/
def lowByte (v : Value) : Byte := v.extractLsb' 0 8

/-- `V[15:8]` (20_memory.md R33). -/
def highByte (v : Value) : Byte := v.extractLsb' 8 8

/-- `{H, L}`: "raw value = byte4<<8 | byte3" (20_memory.md R33, R34). -/
def joinBytes (h l : Byte) : Value := h ++ l

/-- The checksum buffer of a write frame, `[AW, C, V[7:0], V[15:8]]` (41_frame.md R71). -/
def writeBuffer (a : Addr) (c : Byte) (v : Value) : List Byte :=
  [addrWrite a, c, lowByte v, highByte v]

/-- The checksum buffer of a read exchange, `[AW, PEND_CMD, AR, L, H]` (41_frame.md R73, 90_conflicts.md C1). -/
def readBuffer (a : Addr) (c l h : Byte) : List Byte :=
  [addrWrite a, c, addrRead a, l, h]

end Sys2Proof.Machine
end

