-- ==== Sys2Proof/Machine/Ops.lean ====
section
/-! DEFINITION. The shared operations: the CRC-8 generator, the register writes, the illegal-command
effect, reset, the read port, and what the host presents next. -/

namespace Sys2Proof.Machine

/-! ### The CRC-8 generator (spec/40_crc.md R60, R61) -/

/-- One of the iterations of R60: shift left one bit, and XOR with the polynomial if the high bit was set. -/
def crcShift (t : Byte) : Byte := if t.msb then (t <<< 1) ^^^ Config.crcPoly else t <<< 1

/-- `n` iterations of `crcShift`. -/
def crcShifts : Nat → Byte → Byte
  | 0, t => t
  | n + 1, t => crcShifts n (crcShift t)

/-- An input byte as the generator takes it: not reflected on this hardware (R60, log 7). -/
def crcIn (d : Byte) : Byte := bif Config.crcRefIn then d.reverse else d

/-- The result as the generator gives it: not reflected, final XOR 0x00 on this hardware (R61, log 7). -/
def crcOut (r : Byte) : Byte := (bif Config.crcRefOut then r.reverse else r) ^^^ Config.crcXorOut

/-- `crc8_step(r, d)` (R60): XOR the byte into the running value, then 8 iterations. -/
def crc8Step (r d : Byte) : Byte := crcShifts Config.crcWidth (r ^^^ crcIn d)

/-- `crc8_step` over a sequence, from a running value (R61, R65(d)). -/
def crc8From (r : Byte) (bs : List Byte) : Byte := bs.foldl crc8Step r

/-- `crc8(s)` (R61): from CRC_INIT, with the final XOR. -/
def crc8 (bs : List Byte) : Byte := crcOut (crc8From Config.crcInit bs)

/-! ### Register writes -/

/-- `CRC <- r`. -/
def State.setCrc (s : State) (r : Byte) : State := { s with crc := r }

/-- `DEV_ADDR <- a`. -/
def State.setDevAddr (s : State) (a : Addr) : State := { s with devAddr := a }

/-- `VALUE <- v`. -/
def State.setValue (s : State) (v : Value) : State := { s with value := v }

/-- `PEND_CMD <- c; STATUS.PEND <- 1` (10_state.md R18). -/
def State.request (s : State) (c : Byte) : State := { s with pendCmd := c, pend := true }

/-- The transmit buffer and both lengths, written together by an encoder (10_state.md R19). -/
def State.loadTx (s : State) (b0 b1 b2 b3 : Byte) (txLen rxLen : Nat) : State :=
  { s with
    tx0 := b0, tx1 := b1, tx2 := b2, tx3 := b3
    txLen := BitVec.ofNat 3 txLen, rxLen := BitVec.ofNat 2 rxLen }

/-! ### Illegal words and reset -/

/-- `illegal()` (60_exceptions.md R102): STATUS.ILL <- 1, and every other register is unchanged. -/
def State.illegal (s : State) : State := s.setIll

/-- The reset step's effect on the registers (70_reset_and_hazards.md R120): it does not depend on them. -/
def State.resetRegs (s : State) : State := { s with toRegs := Regs.reset }

/-! ### The register read port (20_memory.md R31, R32) -/

/-- `ReadPort(idx)`: the byte at each index; the reserved indices 0xC to 0xF read 0x00. It answers a byte
and no state: a read has no effect (R32; log 9). -/
def readPort (r : Regs) (idx : ReadIndex) : Byte :=
  match idx with
  | 0x0#4 => r.crc
  | 0x1#4 => 0b0#1 ++ r.devAddr
  | 0x2#4 => statusByte r
  | 0x3#4 => 0b00000#5 ++ r.txLen
  | 0x4#4 => 0b000000#6 ++ r.rxLen
  | 0x5#4 => r.tx0
  | 0x6#4 => r.tx1
  | 0x7#4 => r.tx2
  | 0x8#4 => r.tx3
  | 0x9#4 => lowByte r.value
  | 0xA#4 => highByte r.value
  | 0xB#4 => r.pendCmd
  | _ => 0x00#8

/-- The wire bytes the host hands the transport, TX0..TX(TX_LEN-1) (20_memory.md R42, R43). -/
def wireBytes (r : Regs) : List Byte := [r.tx0, r.tx1, r.tx2, r.tx3].take r.txLen.toNat

/-! ### What the host presents (20_memory.md R30, R42; log 1) -/

/-- Which step one presentation is: reset wins over a command presented with it, which is discarded
(70_reset_and_hazards.md R120). -/
def PortInput.event (p : PortInput) : Event :=
  if p.resetIn then .reset else
    match p.command with
    | none => .idle
    | some cw => .command cw

/-- The next step's event; the block waits while nothing is presented (70_reset_and_hazards.md R122; log 2). -/
def State.nextEvent (s : State) : Event :=
  match s.inputs with
  | [] => .idle
  | p :: _ => p.event

/-- The state with what was presented taken away: a command word has its effect once (20_memory.md R41). -/
def State.dropInput (s : State) : State := { s with inputs := s.inputs.tail }

/-- A command word presented alone. -/
def PortInput.ofWord (cw : Word) : PortInput := ⟨false, some cw⟩

/-- The reset input asserted alone. -/
def PortInput.reset : PortInput := ⟨true, none⟩

/-- The state with `ps` presented before anything else. -/
def State.present (s : State) (ps : List PortInput) : State := { s with inputs := ps ++ s.inputs }

end Sys2Proof.Machine
end

