-- ==== Sys2Proof/Machine/Crc.lean ====
section
/-! DEFINITION. The stream commands of the CRC-8 generator (spec/40_crc.md R62, R63). -/

namespace Sys2Proof.Machine

/-- CRC_CLEAR (R62): `CRC <- 0x00`, the initial value CRC_INIT. -/
def execCrcClear (s : State) : Host.Outcome State Fault Refusal := .next (s.setCrc Config.crcInit)

/-- CRC_BYTE (R63): `CRC <- crc8_step(CRC, D)`. -/
def execCrcByte (d : Byte) (s : State) : Host.Outcome State Fault Refusal :=
  .next (s.setCrc (crc8Step s.crc d))

end Sys2Proof.Machine
end

