-- ==== Sys2Proof/Machine/Frame.lean ====
section
/-! DEFINITION. The frame commands (spec/41_frame.md R70 to R73). Every register is read from the state
before the command (20_memory.md R37). -/

namespace Sys2Proof.Machine

/-- SET_ADDR (R70): DEV_ADDR <- A, and a pending read request is cancelled. -/
def execSetAddr (a : Addr) (s : State) : Host.Outcome State Fault Refusal :=
  .next ((s.setDevAddr a).setPend false)

/-- ENC_WRITE (R71): the write frame's wire bytes, its checksum last and left in CRC; a pending read
request is cancelled. -/
def execEncWrite (c : Byte) (v : Value) (s : State) : Host.Outcome State Fault Refusal :=
  let k := crc8 (writeBuffer s.devAddr c v)
  .next ((((s.loadTx c (lowByte v) (highByte v) k Config.writeWireLen 0).setCrc k).succeed).setPend false)

/-- ENC_READ (R72): the request half of a read; the command byte is kept for its response. -/
def execEncRead (c : Byte) (s : State) : Host.Outcome State Fault Refusal :=
  .next (((s.loadTx c 0x00#8 0x00#8 0x00#8 Config.readWriteLen Config.readReadLen).request c).succeed)

/-- The last part of DEC_READ (R73): the computed checksum `sum` goes to CRC, the request is consumed,
and the received bytes are taken only if `sum` is the received checksum byte. -/
def checkResponse (sum l h k : Byte) (s : State) : State :=
  if sum = k then (((s.setCrc sum).setPend false).setValue (joinBytes h l)).succeed
  else ((s.setCrc sum).setPend false).fail .checksum

/-- DEC_READ (R73), its tests in the priority order of 60_exceptions.md R103: no request pending, then
transport failure, then the checksum. -/
def execDecRead (e : Bool) (l h k : Byte) (s : State) : Host.Outcome State Fault Refusal :=
  if s.pend = false then .next (s.fail .sequence)
  else if e then .next ((s.fail .xfer).setPend false)
  else .next (checkResponse (crc8 (readBuffer s.devAddr s.pendCmd l h)) l h k s)

end Sys2Proof.Machine
end

