-- ==== Sys2Proof/Machine/Dispatch.lean ====
section
/-! DEFINITION. One arm per command, one direct call of its meaning each. -/

namespace Sys2Proof.Machine

def exec (i : Instr) (s : State) : Host.Outcome State Fault Refusal :=
  match i with
  | .nop => Sys2Proof.Machine.execNop s
  | .crcClear => Sys2Proof.Machine.execCrcClear s
  | .crcByte d => Sys2Proof.Machine.execCrcByte d s
  | .setAddr a => Sys2Proof.Machine.execSetAddr a s
  | .encWrite c v => Sys2Proof.Machine.execEncWrite c v s
  | .encRead c => Sys2Proof.Machine.execEncRead c s
  | .decRead e l h k => Sys2Proof.Machine.execDecRead e l h k s

end Sys2Proof.Machine
end

