-- ==== Sys2Proof/Machine/Step.lean ====
section
/-! DEFINITION. One step of the machine: one command, one reset, or nothing while nothing is presented
(spec/00_scope.md R6; 30_encoding.md R51; 70_reset_and_hazards.md R120, R122). -/

namespace Sys2Proof.Machine

/-- A command word's step: `decode(cw)`, then the command it names, or `illegal()` (30_encoding.md R51). -/
def execWord (cw : Word) (s : State) : Host.Outcome State Fault Refusal :=
  match decode cw with
  | .ok i => exec i s
  | .error _ => .next s.illegal

/-- One step: take what the host presents next and let it have its effect. -/
def step (s : State) : Host.Outcome State Fault Refusal :=
  match s.nextEvent with
  | .idle => .next s.dropInput
  | .reset => .next s.dropInput.resetRegs
  | .command cw => execWord cw s.dropInput

/-- `s` with the word presented at the command port before anything else, so that the very next step
runs it: the block fetches nothing, its host presents each word (10_state.md R21; log 3). -/
def State.withFetchWord (s : State) (nbits w : Nat) : State :=
  s.present [PortInput.ofWord (tableWord nbits w)]

end Sys2Proof.Machine
end

