-- ==== Sys2Proof/WellFormed.lean ====
section
/-! DEFINITION. Well-formedness of an assembler line (spec/30_encoding.md R52, R53).

"Each operand must fit its field, and an assembler refuses one that does not fit; it does not
truncate." A decoded command (`Instr`) needs no check: its operands have the width of their fields. -/

namespace Sys2Proof

/-- The operand fits an 8-bit field (D, C, L, H, K). -/
def fitsByte (n : Nat) : Bool := n < 0x100

/-- The operand fits the 7-bit field A. -/
def fitsAddr (n : Nat) : Bool := n < 0x80

/-- The operand fits the 16-bit field V. -/
def fitsValue (n : Nat) : Bool := n < 0x10000

/-- The literal of WORD fits the command port. -/
def fitsWord (n : Nat) : Bool := n < 0x100000000

/-- Every operand of the line fits its field; CRC_BYTES has at least one operand (R52, R53). -/
def AsmLine.wellFormed : AsmLine → Bool
  | .nop => true
  | .crcClear => true
  | .crcByte d => fitsByte d
  | .setAddr a => fitsAddr a
  | .encWrite c v => fitsByte c && fitsValue v
  | .encRead c => fitsByte c
  | .decRead l h k => fitsByte l && fitsByte h && fitsByte k
  | .decReadX l h k => fitsByte l && fitsByte h && fitsByte k
  | .crcOf bs => bs.all fitsByte
  | .crcBytes bs => !bs.isEmpty && bs.all fitsByte
  | .xferFail => true
  | .word w => fitsWord w

end Sys2Proof
end

