-- ==== Sys2Proof/Machine/Assembler.lean ====
section
/-! DEFINITION. The assembler (spec/30_encoding.md R52, R53): the words of a line, and the text form.

What R52 leaves open about the text (case, blanks, digits) is the model's choice (log 10). It has no
effect on what a word does (92_eei_decisions.md D23). -/

namespace Sys2Proof

/-! ### Expansion -/

/-- CRC_BYTE with an operand that fits. -/
def crcByteWord (d : Nat) : Word := encode (.crcByte (BitVec.ofNat 8 d))

/-- DEC_READ with operands that fit. -/
def decReadWord (e : Bool) (l h k : Nat) : Word :=
  encode (.decRead e (BitVec.ofNat 8 l) (BitVec.ofNat 8 h) (BitVec.ofNat 8 k))

/-- The words of a line whose operands fit; a pseudo-instruction expands to the real commands listed (R53). -/
def AsmLine.words : AsmLine → List Word
  | .nop => [encode .nop]
  | .crcClear => [encode .crcClear]
  | .crcByte d => [crcByteWord d]
  | .setAddr a => [encode (.setAddr (BitVec.ofNat 7 a))]
  | .encWrite c v => [encode (.encWrite (BitVec.ofNat 8 c) (BitVec.ofNat 16 v))]
  | .encRead c => [encode (.encRead (BitVec.ofNat 8 c))]
  | .decRead l h k => [decReadWord false l h k]
  | .decReadX l h k => [decReadWord true l h k]
  | .crcOf bs => encode .crcClear :: bs.map crcByteWord
  | .crcBytes bs => bs.map crcByteWord
  | .xferFail => [decReadWord true 0 0 0]
  | .word w => [BitVec.ofNat 32 w]

/-- The words of a line; a line with an operand that does not fit is refused, not truncated (R52). -/
def assembleLine (l : AsmLine) : Option (List Word) := if l.wellFormed then some l.words else none

/-! ### Text -/

/-- A blank within a line (log 10). -/
def isBlank (c : Char) : Bool := c == ' ' || c == '\t'

/-- A line without the blanks at its ends. -/
def trimBlanks (cs : List Char) : List Char :=
  ((cs.dropWhile isBlank).reverse.dropWhile isBlank).reverse

/-- A line without its comment (R52). -/
def stripComment (cs : List Char) : List Char := cs.takeWhile (· != ';')

/-- The pieces of `cs` between the separators `sep`; at least one piece. -/
def splitAtChar (sep : Char) : List Char → List (List Char)
  | [] => [[]]
  | c :: cs =>
    match splitAtChar sep cs with
    | [] => [[c]]
    | p :: ps => if c == sep then [] :: p :: ps else (c :: p) :: ps

/-- The value of a decimal or hexadecimal digit, either case (log 10). -/
def digitValue (c : Char) : Option Nat :=
  let n := c.toNat
  if 48 ≤ n && n ≤ 57 then some (n - 48)
  else if 65 ≤ n && n ≤ 70 then some (n - 55)
  else if 97 ≤ n && n ≤ 102 then some (n - 87)
  else none

/-- Digits in a base, most significant first, after the value `acc`. -/
def parseDigits (base acc : Nat) : List Char → Option Nat
  | [] => some acc
  | c :: cs =>
    match digitValue c with
    | some d => if d < base then parseDigits base (base * acc + d) cs else none
    | none => none

/-- A number: `0x` hexadecimal, else decimal; at least one digit (R52). -/
def parseNumber : List Char → Option Nat
  | [] => none
  | ['0', 'x'] => none
  | '0' :: 'x' :: cs => parseDigits 16 0 cs
  | cs => parseDigits 10 0 cs

/-- The operands, separated by commas (R52). -/
def parseOperands (cs : List Char) : Option (List Nat) :=
  match trimBlanks cs with
  | [] => some []
  | t => (splitAtChar ',' t).mapM (fun p => parseNumber (trimBlanks p))

/-- The line that a mnemonic and its operands stand for; a wrong number of operands is refused. -/
def asmLineOf (mnemonic : String) (ops : List Nat) : Option AsmLine :=
  match ops with
  | [] =>
    if mnemonic = "NOP" then some .nop
    else if mnemonic = "CRC_CLEAR" then some .crcClear
    else if mnemonic = "XFER_FAIL" then some .xferFail
    else if mnemonic = "CRC_OF" then some (.crcOf [])
    else none
  | [x] =>
    if mnemonic = "CRC_BYTE" then some (.crcByte x)
    else if mnemonic = "SET_ADDR" then some (.setAddr x)
    else if mnemonic = "ENC_READ" then some (.encRead x)
    else if mnemonic = "WORD" then some (.word x)
    else if mnemonic = "CRC_OF" then some (.crcOf [x])
    else if mnemonic = "CRC_BYTES" then some (.crcBytes [x])
    else none
  | [x, y] =>
    if mnemonic = "ENC_WRITE" then some (.encWrite x y)
    else if mnemonic = "CRC_OF" then some (.crcOf [x, y])
    else if mnemonic = "CRC_BYTES" then some (.crcBytes [x, y])
    else none
  | [x, y, z] =>
    if mnemonic = "DEC_READ" then some (.decRead x y z)
    else if mnemonic = "DEC_READ.X" then some (.decReadX x y z)
    else if mnemonic = "CRC_OF" then some (.crcOf [x, y, z])
    else if mnemonic = "CRC_BYTES" then some (.crcBytes [x, y, z])
    else none
  | bs =>
    if mnemonic = "CRC_OF" then some (.crcOf bs)
    else if mnemonic = "CRC_BYTES" then some (.crcBytes bs)
    else none

/-- One line of text: `some none` for an empty line or a comment, `none` where it is refused. -/
def parseLine (cs : List Char) : Option (Option AsmLine) :=
  match trimBlanks (stripComment cs) with
  | [] => some none
  | t =>
    match parseOperands (t.dropWhile (!isBlank ·)) with
    | none => none
    | some ops => (asmLineOf (String.ofList (t.takeWhile (!isBlank ·))) ops).map some

/-- The words of one line of text. -/
def assembleChars (cs : List Char) : Option (List Word) :=
  match parseLine cs with
  | none => none
  | some none => some []
  | some (some l) => assembleLine l

/-- The words of lines of text, in order; one refused line refuses the text. -/
def assembleLines : List (List Char) → Option (List Word)
  | [] => some []
  | l :: ls =>
    match assembleChars l, assembleLines ls with
    | some ws, some rest => some (ws ++ rest)
    | _, _ => none

/-- The words of a text, one command per line (R52). -/
def assemble (text : String) : Option (List Word) := assembleLines (splitAtChar '\n' text.toList)

end Sys2Proof
end

