-- ==== Sys2Proof/Machine/HostSequences.lean ====
section
/-! DEFINITION. The source's read-word and write-word as host command sequences, and what the block hands
the transport (spec/41_frame.md R80; 20_memory.md R42, R43). The transport itself is outside the block
(00_scope.md R4): its answer is an argument here. -/

namespace Sys2Proof.Machine

/-- The response word of a read: the three received bytes in arrival order, or XFER_FAIL where the
transport returned false (41_frame.md R80, 30_encoding.md R53). -/
def responseWord (answer : Option (Byte × Byte × Byte)) : Word :=
  match answer with
  | some (l, h, k) => encode (.decRead false l h k)
  | none => encode (.decRead true 0#8 0#8 0#8)

/-- read-word(command): request, exchange, response (R80). -/
def readWordWords (c : Byte) (answer : Option (Byte × Byte × Byte)) : List Word :=
  [encode (.encRead c), responseWord answer]

/-- write-word(command, value): the frame; its success is the transport's, outside the block (R80, R112). -/
def writeWordWords (c : Byte) (v : Value) : List Word := [encode (.encWrite c v)]

/-- The result of read-word after its DEC_READ: `(VALUE, STATUS.OK)` (R80). -/
def readWordResult (r : Regs) : Value × Bool := (r.value, r.ok)

/-- What the host hands the transport after an encoder: the bytes to write, in order, and how many to
read back (20_memory.md R42, R43). -/
def transportCall (r : Regs) : List Byte × Nat := (wireBytes r, r.rxLen.toNat)

/-- The checksum byte a correct device at `a` sends with value `v` for command `c` (41_frame.md R75). -/
def deviceChecksum (a : Addr) (c : Byte) (v : Value) : Byte :=
  crc8 (readBuffer a c (lowByte v) (highByte v))

end Sys2Proof.Machine
end

