-- ==== Sys2Proof/Machine/OpcodeMap.lean ====
section
/-! DEFINITION. The opcode map as the spec's table lists it, row by row (spec/30_encoding.md R46, R48, R49;
spec/opcode_table.json). The decoder is R51's; that the two agree is a claim. -/

namespace Sys2Proof

/-- The six formats of R46. -/
inductive Format where
  | Z | B | A | W | Q | R
  deriving DecidableEq, Repr

/-- A row of the opcode map. -/
structure OpcodeRow where
  op : BitVec 4
  name : String
  format : Format
  pattern : Word
  mask : Word
  deriving DecidableEq, Repr

/-- The reserved bits of a format, the `0` positions of R46's bit strings. -/
def Format.reservedMask : Format → Word
  | .Z => 0x0FFFFFFF#32
  | .B => 0x0FFFFF00#32
  | .A => 0x0FFFFF80#32
  | .W => 0x0F000000#32
  | .Q => 0x0F00FFFF#32
  | .R => 0x07000000#32

/-- The opcode map (R48). -/
def opcodeMap : List OpcodeRow :=
  [⟨0x0#4, "NOP", .Z, 0x00000000#32, 0xFFFFFFFF#32⟩,
   ⟨0x1#4, "CRC_CLEAR", .Z, 0x10000000#32, 0xFFFFFFFF#32⟩,
   ⟨0x2#4, "CRC_BYTE", .B, 0x20000000#32, 0xFFFFFF00#32⟩,
   ⟨0x3#4, "SET_ADDR", .A, 0x30000000#32, 0xFFFFFF80#32⟩,
   ⟨0x4#4, "ENC_WRITE", .W, 0x40000000#32, 0xFF000000#32⟩,
   ⟨0x5#4, "ENC_READ", .Q, 0x50000000#32, 0xFF00FFFF#32⟩,
   ⟨0x6#4, "DEC_READ", .R, 0x60000000#32, 0xF7000000#32⟩]

/-- The word is the command in the row: `(cw & mask) == match` (R48). -/
abbrev OpcodeRow.matchesWord (r : OpcodeRow) (cw : Word) : Prop := cw &&& r.mask = r.pattern

/-- The word is illegal, as R49 says it: an opcode 0x7 to 0xF, or a reserved bit of its format set. -/
abbrev illegalWord (cw : Word) : Prop :=
  0x7#4 ≤ opcode cw ∨ ∃ r ∈ opcodeMap, r.op = opcode cw ∧ cw &&& r.format.reservedMask ≠ 0#32

end Sys2Proof
end

