-- ==== Sys2Proof/Safety.lean ====
section
/-! DEFINITION. Runs and invariants, in the terms the claims use (spec/92_eei_decisions.md D27; 10_state.md R16, R18, R19).

Every step of this block completes (60_exceptions.md R100), so a safe run is one along which the
registers keep the relations the spec states between them. -/

namespace Sys2Proof.Machine

/-- `n` steps, stopping where one does. -/
def runSteps : Nat → State → Host.Outcome State Fault Refusal
  | 0, s => .next s
  | n + 1, s =>
    match step s with
    | .next t => runSteps n t
    | .fault f => .fault f
    | .refused r => .refused r

/-- The run in which the host presents exactly `ps`, in order, from the registers of `s`. -/
def runInputs (ps : List PortInput) (s : State) : Host.Outcome State Fault Refusal :=
  runSteps ps.length (s.present ps)

/-- The run in which the host presents exactly the command words `ws`, in order. -/
def runWords (ws : List Word) (s : State) : Host.Outcome State Fault Refusal :=
  runInputs (ws.map PortInput.ofWord) s

/-- OK = 1 always comes with CAUSE = NONE (R16). -/
abbrev OkHasNoCause (r : Regs) : Prop := r.ok = true → r.cause = .none

/-- TX_LEN and RX_LEN are those of no frame, a write frame or a read request (R19). -/
abbrev LengthsOfAFrame (r : Regs) : Prop :=
  (r.txLen = 0#3 ∧ r.rxLen = 0#2) ∨ (r.txLen = 4#3 ∧ r.rxLen = 0#2) ∨ (r.txLen = 1#3 ∧ r.rxLen = 3#2)

/-- The transmit bytes at index TX_LEN and above are 0x00 (R19). -/
abbrev NoStaleTxByte (r : Regs) : Prop :=
  (r.txLen.toNat ≤ 0 → r.tx0 = 0x00#8) ∧ (r.txLen.toNat ≤ 1 → r.tx1 = 0x00#8) ∧
    (r.txLen.toNat ≤ 2 → r.tx2 = 0x00#8) ∧ (r.txLen.toNat ≤ 3 → r.tx3 = 0x00#8)

/-- A pending request is the last frame encoded: its command byte is the one to be sent (R18, R72). -/
abbrev PendingIsLastRequest (r : Regs) : Prop :=
  r.pend = true → r.txLen = 1#3 ∧ r.tx0 = r.pendCmd ∧ r.ok = true

/-- OK = 0 with CAUSE = NONE only before the first frame command (R16). -/
abbrev NoCauseFailureIsFresh (r : Regs) : Prop :=
  r.ok = false → r.cause = .none →
    r.txLen = 0#3 ∧ r.pend = false ∧ r.value = 0x0000#16 ∧ r.pendCmd = 0x00#8

/-- Before the first encoder nothing has been received or requested (R18, R19, R20). -/
abbrev NoFrameNoData (r : Regs) : Prop :=
  r.txLen = 0#3 → r.pend = false ∧ r.value = 0x0000#16 ∧ r.pendCmd = 0x00#8

/-- The relations between the registers that every step keeps. -/
structure Inv (s : State) : Prop where
  okHasNoCause : OkHasNoCause s.toRegs
  lengths : LengthsOfAFrame s.toRegs
  noStaleTx : NoStaleTxByte s.toRegs
  pendingIsLast : PendingIsLastRequest s.toRegs
  freshFailure : NoCauseFailureIsFresh s.toRegs
  noFrame : NoFrameNoData s.toRegs

/-- A write frame in the transmit buffer ends in the checksum of its bytes after some device's write
address byte (41_frame.md R74): the one DEV_ADDR held when the frame was encoded. -/
abbrev WriteFrameChecked (r : Regs) : Prop :=
  r.txLen = 4#3 → ∃ a : Addr, r.tx3 = crc8 [addrWrite a, r.tx0, r.tx1, r.tx2]

end Sys2Proof.Machine
end

