-- ==== Sys2Proof/Certificates/Slice0/Obligations.lean ====
section
/-! DEFINITION. The statements for the provers.

A statement about a result gives the whole next state as a record update of the state before, so it is
also the frame: every field it does not name is unchanged, the host's `inputs` among them. Operand
fields and checksum buffers are written out from the spec's own notation, not through the model's
helpers. The block has no memory (spec/20_memory.md R30), so no statement speaks of stored bytes. -/

open Sys2Proof Sys2Proof.Machine

/-! ### Encoding (spec/30_encoding.md) -/

/-- Decoding the encoding of any command gives the command back, with every operand at every value. -/
def Obligations.DecodeOfEncodeGivesTheCommand : Prop := ∀ i : Instr, decode (encode i) = .ok i

/-- A legal word is the encoding of the command it decodes to, so no two words are one command. -/
def Obligations.EncodeOfDecodeGivesTheWord : Prop :=
  ∀ (cw : Word) (i : Instr), decode cw = .ok i → encode i = cw

/-- R48: "A word `cw` is the command in a row exactly when `(cw & mask) == match`", for each row of the
map, and the opcodes 0x7 to 0xF have no command. Since the row decides the mnemonic, no word is in two rows. -/
def Obligations.OpcodeMapDecidesTheCommand : Prop :=
  (∀ cw : Word, ∀ r ∈ opcodeMap,
    cw &&& r.mask = r.pattern ↔ ∃ i, decode cw = .ok i ∧ mnemonic i = r.name) ∧
  (∀ r ∈ opcodeMap, r.pattern.extractLsb' 28 4 = r.op) ∧
  (∀ cw : Word, 0x7#4 ≤ cw.extractLsb' 28 4 → ∀ i, decode cw ≠ .ok i)

/-- R49: the illegal words are exactly those with an opcode 0x7 to 0xF or a reserved bit of their format
set, and an illegal word sets STATUS.ILL and changes nothing else. -/
def Obligations.IllegalWordsAreTheReservedOnes : Prop :=
  (∀ cw : Word, illegalWord cw ↔ ∃ e, decode cw = .error e) ∧
  (∀ (cw : Word) (s : State), illegalWord cw → execWord cw s = .next { s with ill := true })

/-- R47: every operand is the plain unsigned bit field the rule names, and every command byte is accepted. -/
def Obligations.OperandsAreTheirBitFields : Prop :=
  (∀ cw d, decode cw = .ok (.crcByte d) → d.toNat = cw.toNat % 2 ^ 8) ∧
  (∀ cw a, decode cw = .ok (.setAddr a) → a.toNat = cw.toNat % 2 ^ 7) ∧
  (∀ cw c v, decode cw = .ok (.encWrite c v) →
    c.toNat = cw.toNat / 2 ^ 16 % 2 ^ 8 ∧ v.toNat = cw.toNat % 2 ^ 16) ∧
  (∀ cw c, decode cw = .ok (.encRead c) → c.toNat = cw.toNat / 2 ^ 16 % 2 ^ 8) ∧
  (∀ cw e l h k, decode cw = .ok (.decRead e l h k) →
    (e = true ↔ cw.toNat / 2 ^ 27 % 2 = 1) ∧ l.toNat = cw.toNat % 2 ^ 8 ∧
      h.toNat = cw.toNat / 2 ^ 8 % 2 ^ 8 ∧ k.toNat = cw.toNat / 2 ^ 16 % 2 ^ 8) ∧
  (∀ c : Byte, (∃ cw, decode cw = .ok (.encRead c)) ∧ ∀ v, ∃ cw, decode cw = .ok (.encWrite c v))

/-- Words written out by the spec decode to the commands it writes beside them. -/
def Obligations.WrittenOutWordsDecode : Prop :=
  decode 0x00000000#32 = .ok .nop ∧ decode 0x10000000#32 = .ok .crcClear ∧
  decode 0x200000F4#32 = .ok (.crcByte 0xF4#8) ∧ decode 0x3000007F#32 = .ok (.setAddr 0x7F#7) ∧
  decode 0x4007AA55#32 = .ok (.encWrite 0x07#8 0xAA55#16) ∧ decode 0x50110000#32 = .ok (.encRead 0x11#8) ∧
  decode 0x60402301#32 = .ok (.decRead false 0x01#8 0x23#8 0x40#8) ∧
  decode 0x68000000#32 = .ok (.decRead true 0x00#8 0x00#8 0x00#8)

/-- The assembler gives the word of the syntax table where every operand fits its field, and refuses the
line where one does not; the eight lines of the table, those without an operand among them. -/
def Obligations.AssemblerRefusesWhatDoesNotFit : Prop :=
  assembleLine .nop = some [0x00000000#32] ∧
  assembleLine .crcClear = some [0x10000000#32] ∧
  (∀ d, assembleLine (.crcByte d) =
    if d < 0x100 then some [BitVec.ofNat 32 (0x20000000 + d)] else none) ∧
  (∀ a, assembleLine (.setAddr a) =
    if a < 0x80 then some [BitVec.ofNat 32 (0x30000000 + a)] else none) ∧
  (∀ c v, assembleLine (.encWrite c v) =
    if c < 0x100 ∧ v < 0x10000 then some [BitVec.ofNat 32 (0x40000000 + c * 2 ^ 16 + v)] else none) ∧
  (∀ c, assembleLine (.encRead c) =
    if c < 0x100 then some [BitVec.ofNat 32 (0x50000000 + c * 2 ^ 16)] else none) ∧
  (∀ l h k, assembleLine (.decRead l h k) =
    if l < 0x100 ∧ h < 0x100 ∧ k < 0x100 then
      some [BitVec.ofNat 32 (0x60000000 + k * 2 ^ 16 + h * 2 ^ 8 + l)] else none) ∧
  (∀ l h k, assembleLine (.decReadX l h k) =
    if l < 0x100 ∧ h < 0x100 ∧ k < 0x100 then
      some [BitVec.ofNat 32 (0x68000000 + k * 2 ^ 16 + h * 2 ^ 8 + l)] else none)

/-- The pseudo-instructions expand to the commands the spec lists. -/
def Obligations.PseudoInstructionsExpand : Prop :=
  (∀ bs : List Byte, assembleLine (.crcOf (bs.map BitVec.toNat)) =
    some (encode .crcClear :: bs.map fun b => encode (.crcByte b))) ∧
  (∀ bs : List Byte, assembleLine (.crcBytes (bs.map BitVec.toNat)) =
    if bs = [] then none else some (bs.map fun b => encode (.crcByte b))) ∧
  assembleLine .xferFail = some [0x68000000#32] ∧
  (∀ w : Word, assembleLine (.word w.toNat) = some [w])

/-! ### Steps and reset (spec/20_memory.md, 60_exceptions.md, 70_reset_and_hazards.md) -/

/-- A step in which the host presents a legal command word is `exec` of the command, the word taken away. -/
def Obligations.StepRunsThePresentedCommand : Prop :=
  ∀ (s : State) (cw : Word) (i : Instr) (rest : List PortInput),
    s.inputs = ⟨false, some cw⟩ :: rest → decode cw = .ok i → step s = exec i { s with inputs := rest }

/-- R102: a step in which the host presents an illegal word sets STATUS.ILL and changes no other
register, and ILL stays 1 through every step that is not a reset. -/
def Obligations.IllegalWordSetsOnlyIll : Prop :=
  (∀ (s : State) (cw : Word) (e : Illegal) (rest : List PortInput),
    s.inputs = ⟨false, some cw⟩ :: rest → decode cw = .error e →
      step s = .next { s with inputs := rest, ill := true }) ∧
  (∀ s t : State, s.ill = true → s.nextEvent ≠ .reset → step s = .next t → t.ill = true)

/-- R120: a step with the reset input asserted sets every register to its reset value, whatever the
state and whatever word is presented with it; `State.reset` holds the same values. -/
def Obligations.ResetSetsEveryRegisterAndWins : Prop :=
  (∀ (s : State) (c : Option Word) (rest : List PortInput),
    s.inputs = ⟨true, c⟩ :: rest →
      step s = .next
        { crc := 0x00#8, devAddr := 0x0B#7, ok := false, pend := false, ill := false, cause := .none,
          txLen := 0#3, rxLen := 0#2, tx0 := 0x00#8, tx1 := 0x00#8, tx2 := 0x00#8, tx3 := 0x00#8,
          value := 0x0000#16, pendCmd := 0x00#8, inputs := rest }) ∧
  State.reset.toRegs =
    { crc := 0x00#8, devAddr := 0x0B#7, ok := false, pend := false, ill := false, cause := .none,
      txLen := 0#3, rxLen := 0#2, tx0 := 0x00#8, tx1 := 0x00#8, tx2 := 0x00#8, tx3 := 0x00#8,
      value := 0x0000#16, pendCmd := 0x00#8 }

/-- The sixteen bytes of the read port after reset. -/
def Obligations.ReadPortAfterReset : Prop :=
  (List.range 16).map (fun n => readPort State.reset.toRegs (BitVec.ofNat 4 n)) =
    (0x00#8 :: 0x0B#8 :: List.replicate 14 0x00#8)

/-- While the host presents nothing the machine waits unchanged, both where its list is empty and where
its next entry holds neither reset nor word (the entry is then taken away). The model's reading of "the
block waits for its first command" (log 2). -/
def Obligations.NothingPresentedChangesNothing : Prop :=
  (∀ s : State, s.inputs = [] → step s = .next s) ∧
  (∀ (s : State) (rest : List PortInput), s.inputs = ⟨false, none⟩ :: rest →
    step s = .next { s with inputs := rest })

/-- Every word executes as a step, and every step completes and takes away exactly what was presented:
the block never traps and never stops accepting. -/
def Obligations.EveryStepCompletes : Prop :=
  (∀ (cw : Word) (s : State), ∃ t, execWord cw s = .next t ∧ t.inputs = s.inputs) ∧
  (∀ s : State, ∃ t, step s = .next t ∧ t.inputs = s.inputs.tail)

/-- What the host presents takes effect in order: a run over `ps ++ qs` is the run over `qs` from the
state the run over `ps` leaves. -/
def Obligations.RunsComposeInOrder : Prop :=
  ∀ (ps qs : List PortInput) (s : State),
    ∃ t, runInputs ps s = .next t ∧ t.inputs = s.inputs ∧ runInputs (ps ++ qs) s = runInputs qs t

/-- No hidden state: two machines with the same registers, shown the same thing next, have the same
registers after the step, whatever else their hosts are going to present. -/
def Obligations.StepDependsOnRegistersAndPresentedInput : Prop :=
  ∀ s u t : State, s.toRegs = u.toRegs → s.nextEvent = u.nextEvent → step s = .next t →
    ∃ v, step u = .next v ∧ v.toRegs = t.toRegs

/-! ### The CRC-8 generator (spec/40_crc.md) -/

/-- R62, CRC_CLEAR: CRC <- 0x00 and nothing else, for its one word; any other word of its opcode is illegal. -/
def Obligations.CrcClearResult : Prop :=
  (∀ s : State, exec .crcClear s = .next { s with crc := 0x00#8 }) ∧
  decode 0x10000000#32 = .ok .crcClear ∧
  (∀ s : State, s.crc = 0x00#8 → exec .crcClear s = .next s) ∧
  (∀ (cw : Word) (s : State), cw.extractLsb' 28 4 = 0x1#4 → cw.extractLsb' 0 28 ≠ 0#28 →
    execWord cw s = .next { s with ill := true })

/-- R63, CRC_BYTE: CRC <- crc8_step(CRC, D) and nothing else; its words; its corner cases. -/
def Obligations.CrcByteResult : Prop :=
  (∀ (d : Byte) (s : State), exec (.crcByte d) s = .next { s with crc := crc8Step s.crc d }) ∧
  (∀ cw : Word, cw &&& 0xFFFFFF00#32 = 0x20000000#32 → decode cw = .ok (.crcByte (cw.extractLsb' 0 8))) ∧
  (∀ (cw : Word) (s : State), cw.extractLsb' 28 4 = 0x2#4 → cw.extractLsb' 8 20 ≠ 0#20 →
    execWord cw s = .next { s with ill := true }) ∧
  (∀ d : Byte, crc8Step d d = 0x00#8) ∧
  (∀ r d r' d' : Byte, r ^^^ d = r' ^^^ d' → crc8Step r d = crc8Step r' d') ∧
  crc8Step 0x00#8 0x00#8 = 0x00#8 ∧ crc8Step 0x00#8 0xFF#8 = 0xF3#8 ∧ crc8Step 0x80#8 0x00#8 = 0x89#8 ∧
  crc8Step 0x00#8 0x16#8 = 0x62#8

/-- R60: `crc8_step` is the bit loop on numbers: XOR the byte in, then eight times double, and where the
high bit was set drop the carry and XOR with 0x07. -/
def Obligations.CrcStepIsTheBitLoop : Prop :=
  ∀ r d : Byte, (crc8Step r d).toNat =
    (fun t : Nat => if 128 ≤ t then (2 * t) % 256 ^^^ 7 else (2 * t) % 256)^[8] (r.toNat ^^^ d.toNat)

/-- R61: `crc8` folds the step over the sequence, from 0x00, with no final change. -/
def Obligations.CrcOfSequenceIsTheFold : Prop :=
  crc8 [] = 0x00#8 ∧ ∀ (bs : List Byte) (b : Byte), crc8 (bs ++ [b]) = crc8Step (crc8 bs) b

/-- The table form: the step is a lookup at `r ^ d` in the printed table, a bijection with T[0] = 0x00. -/
def Obligations.CrcStepIsTheTableLookup : Prop :=
  (∀ r d : Byte, crc8Step r d = crcTableEntry (r ^^^ d)) ∧
    Function.Bijective crcTableEntry ∧ crcTableEntry 0x00#8 = 0x00#8

/-- Residue: running the last byte through the generator leaves 0x00 exactly when it is the checksum. -/
def Obligations.ResidueIsZeroExactlyForTheChecksum : Prop :=
  ∀ (bs : List Byte) (k : Byte), crc8 (bs ++ [k]) = 0x00#8 ↔ k = crc8 bs

/-- Leading zero bytes do not change a checksum. -/
def Obligations.LeadingZerosDoNotCount : Prop :=
  ∀ (n : Nat) (bs : List Byte), crc8 (List.replicate n 0x00#8 ++ bs) = crc8 bs

/-- Linearity over sequences of equal length. -/
def Obligations.CrcIsLinear : Prop :=
  ∀ bs cs : List Byte, bs.length = cs.length →
    crc8 (List.zipWith (· ^^^ ·) bs cs) = crc8 bs ^^^ crc8 cs

/-- Changing one bit of one byte changes the checksum. -/
def Obligations.SingleBitErrorChangesCrc : Prop :=
  ∀ (pre post : List Byte) (b : Byte) (j : Nat), j < 8 →
    crc8 (pre ++ [b ^^^ (1#8 <<< j)] ++ post) ≠ crc8 (pre ++ [b] ++ post)

/-- The check value of "123456789". -/
def Obligations.CheckValueOfDigits : Prop :=
  crc8 [0x31#8, 0x32#8, 0x33#8, 0x34#8, 0x35#8, 0x36#8, 0x37#8, 0x38#8, 0x39#8] = 0xF4#8

/-- The words of CRC_OF leave CRC = crc8 of the bytes, those of CRC_BYTES go on from the CRC they find,
and neither changes another register. -/
def Obligations.CrcStreamRun : Prop :=
  (∀ (bs : List Byte) (s : State),
    runWords (encode .crcClear :: bs.map fun b => encode (.crcByte b)) s =
      .next { s with crc := crc8 bs }) ∧
  (∀ (bs : List Byte) (s : State),
    runWords (bs.map fun b => encode (.crcByte b)) s = .next { s with crc := bs.foldl crc8Step s.crc })

/-! ### Frame commands (spec/41_frame.md) -/

/-- R70, SET_ADDR: DEV_ADDR <- A, PEND <- 0 and nothing else; its words. -/
def Obligations.SetAddrResult : Prop :=
  (∀ (a : Addr) (s : State), exec (.setAddr a) s = .next { s with devAddr := a, pend := false }) ∧
  (∀ cw : Word, cw &&& 0xFFFFFF80#32 = 0x30000000#32 → decode cw = .ok (.setAddr (cw.extractLsb' 0 7))) ∧
  (∀ (cw : Word) (s : State), cw.extractLsb' 28 4 = 0x3#4 → cw.extractLsb' 7 21 ≠ 0#21 →
    execWord cw s = .next { s with ill := true })

/-- R71, ENC_WRITE: the frame, its lengths, the checksum in TX3 and in CRC, the status, and nothing else;
its words; the buffer's address byte does not count at DEV_ADDR = 0x00. -/
def Obligations.EncWriteResult : Prop :=
  (∀ (c : Byte) (v : Value) (s : State) (k : Byte),
    k = crc8 [s.devAddr ++ 0#1, c, v.extractLsb' 0 8, v.extractLsb' 8 8] →
      exec (.encWrite c v) s = .next
        { s with
          tx0 := c, tx1 := v.extractLsb' 0 8, tx2 := v.extractLsb' 8 8, tx3 := k,
          txLen := 4#3, rxLen := 0#2, crc := k, ok := true, cause := .none, pend := false }) ∧
  (∀ cw : Word, cw &&& 0xFF000000#32 = 0x40000000#32 →
    decode cw = .ok (.encWrite (cw.extractLsb' 16 8) (cw.extractLsb' 0 16))) ∧
  (∀ (cw : Word) (s : State), cw.extractLsb' 28 4 = 0x4#4 → cw.extractLsb' 24 4 ≠ 0#4 →
    execWord cw s = .next { s with ill := true }) ∧
  (∀ c l h : Byte, crc8 [(0#7 ++ 0#1 : Byte), c, l, h] = crc8 [c, l, h])

/-- R72, ENC_READ: the request, its lengths, the latched command byte, the status, and nothing else; its words. -/
def Obligations.EncReadResult : Prop :=
  (∀ (c : Byte) (s : State),
    exec (.encRead c) s = .next
      { s with
        tx0 := c, tx1 := 0x00#8, tx2 := 0x00#8, tx3 := 0x00#8, txLen := 1#3, rxLen := 3#2,
        pendCmd := c, pend := true, ok := true, cause := .none }) ∧
  (∀ cw : Word, cw &&& 0xFF00FFFF#32 = 0x50000000#32 → decode cw = .ok (.encRead (cw.extractLsb' 16 8))) ∧
  (∀ (cw : Word) (s : State),
    cw.extractLsb' 28 4 = 0x5#4 → (cw.extractLsb' 24 4 ≠ 0#4 ∨ cw.extractLsb' 0 16 ≠ 0#16) →
      execWord cw s = .next { s with ill := true })

/-- DEC_READ, its four paths (SEQUENCE, XFER, success, CHECKSUM), each with everything it changes and
nothing else; its words. It states the pseudocode of the rule; one of the rule's remarks is false of that
pseudocode (log 13) and is answered by `EchoedWriteChecksumIsAFixedPoint`. -/
def Obligations.DecReadResult : Prop :=
  (∀ (e : Bool) (l h k : Byte) (s : State), s.pend = false →
    exec (.decRead e l h k) s = .next { s with ok := false, cause := .sequence }) ∧
  (∀ (l h k : Byte) (s : State), s.pend = true →
    exec (.decRead true l h k) s = .next { s with ok := false, cause := .xfer, pend := false }) ∧
  (∀ (l h k : Byte) (s : State), s.pend = true →
    crc8 [s.devAddr ++ 0#1, s.pendCmd, s.devAddr ++ 1#1, l, h] = k →
      exec (.decRead false l h k) s =
        .next { s with crc := k, pend := false, value := h ++ l, ok := true, cause := .none }) ∧
  (∀ (l h k : Byte) (s : State) (c : Byte), s.pend = true →
    crc8 [s.devAddr ++ 0#1, s.pendCmd, s.devAddr ++ 1#1, l, h] = c → c ≠ k →
      exec (.decRead false l h k) s =
        .next { s with crc := c, pend := false, ok := false, cause := .checksum }) ∧
  (∀ cw : Word, cw &&& 0xF7000000#32 = 0x60000000#32 →
    decode cw = .ok (.decRead (cw.getLsbD 27) (cw.extractLsb' 0 8) (cw.extractLsb' 8 8)
      (cw.extractLsb' 16 8))) ∧
  (∀ (cw : Word) (s : State), cw.extractLsb' 28 4 = 0x6#4 → cw.extractLsb' 24 3 ≠ 0#3 →
    execWord cw s = .next { s with ill := true })

/-- R103: the priority illegal word, sequence, transport, checksum; exactly one is recorded per word. -/
def Obligations.ErrorPriority : Prop :=
  (∀ (cw : Word) (s : State), cw.extractLsb' 28 4 = 0x6#4 → cw.extractLsb' 24 3 ≠ 0#3 →
    execWord cw s = .next { s with ill := true }) ∧
  (∀ (cw : Word) (s : State), cw.extractLsb' 28 4 = 0x6#4 → cw.extractLsb' 24 3 = 0#3 → s.pend = false →
    ∃ t, execWord cw s = .next t ∧ t.ok = false ∧ t.cause = .sequence ∧ t.ill = s.ill ∧ t.crc = s.crc) ∧
  (∀ (cw : Word) (s : State), cw.extractLsb' 28 4 = 0x6#4 → cw.extractLsb' 24 3 = 0#3 → s.pend = true →
    cw.getLsbD 27 = true →
      ∃ t, execWord cw s = .next t ∧ t.ok = false ∧ t.cause = .xfer ∧ t.ill = s.ill ∧ t.crc = s.crc) ∧
  (∀ (cw : Word) (s : State), cw.extractLsb' 28 4 = 0x6#4 → cw.extractLsb' 24 3 = 0#3 → s.pend = true →
    cw.getLsbD 27 = false →
      ∃ t, execWord cw s = .next t ∧ t.ill = s.ill ∧
        ((t.ok = false ∧ t.cause = .checksum) ↔
          crc8 [s.devAddr ++ 0#1, s.pendCmd, s.devAddr ++ 1#1, cw.extractLsb' 0 8, cw.extractLsb' 8 8] ≠
            cw.extractLsb' 16 8))

/-- The list of error conditions is complete: a word that leaves OK = 0 either leaves OK and CAUSE as
they were, or is a DEC_READ under one of the three conditions, with that condition's CAUSE; and a word
that sets ILL is an illegal one. -/
def Obligations.ErrorConditionsAreComplete : Prop :=
  ∀ (cw : Word) (s t : State), execWord cw s = .next t →
    (t.ok = false → (s.ok = false ∧ t.cause = s.cause) ∨
      ∃ e l h k, decode cw = .ok (.decRead e l h k) ∧
        ((s.pend = false ∧ t.cause = .sequence) ∨
          (s.pend = true ∧ e = true ∧ t.cause = .xfer ∧ t.pend = false) ∨
          (s.pend = true ∧ e = false ∧ t.cause = .checksum ∧ t.pend = false ∧
            crc8 [s.devAddr ++ 0#1, s.pendCmd, s.devAddr ++ 1#1, l, h] = t.crc ∧ t.crc ≠ k))) ∧
    (t.ill = true → s.ill = false → illegalWord cw)

/-- The frame invariant: a frame's checksum byte is the CRC of the bytes before it in its buffer, the
synthesized address bytes among them. -/
def Obligations.FrameChecksumCoversTheFrame : Prop :=
  (∀ (c : Byte) (v : Value) (s : State), ∃ t, exec (.encWrite c v) s = .next t ∧
    t.tx3 = crc8 [s.devAddr ++ 0#1, t.tx0, t.tx1, t.tx2]) ∧
  (∀ (e : Bool) (l h k : Byte) (s t : State), exec (.decRead e l h k) s = .next t → t.ok = true →
    k = crc8 [s.devAddr ++ 0#1, s.pendCmd, s.devAddr ++ 1#1, l, h])

/-- Round trip: a read answered as a correct device holding V answers it ends with VALUE = V, and so does
a read answered with the value bytes a write of V put on the wire. -/
def Obligations.ReadReconstructsTheValue : Prop :=
  (∀ (c : Byte) (v : Value) (s : State), ∃ t,
    runWords [encode (.encRead c), encode (.decRead false (v.extractLsb' 0 8) (v.extractLsb' 8 8)
      (crc8 [s.devAddr ++ 0#1, c, s.devAddr ++ 1#1, v.extractLsb' 0 8, v.extractLsb' 8 8]))] s = .next t ∧
    t.value = v ∧ t.ok = true ∧ t.cause = .none) ∧
  (∀ (c : Byte) (v : Value) (s : State), ∃ u t,
    runWords (writeWordWords c v) s = .next u ∧
    runWords (readWordWords c (some (u.tx1, u.tx2,
      crc8 [u.devAddr ++ 0#1, c, u.devAddr ++ 1#1, u.tx1, u.tx2]))) u = .next t ∧
    readWordResult t.toRegs = (v, true))

/-- Corruption of the checksum byte: after ENC_READ every wrong K fails CHECKSUM and leaves VALUE. -/
def Obligations.WrongChecksumByteIsDetected : Prop :=
  ∀ (c l h k : Byte) (s : State),
    k ≠ crc8 [s.devAddr ++ 0#1, c, s.devAddr ++ 1#1, l, h] →
      ∃ t, runWords [encode (.encRead c), encode (.decRead false l h k)] s = .next t ∧
        t.ok = false ∧ t.cause = .checksum ∧ t.value = s.value

/-- Corruption of one data bit: after ENC_READ, a response with one bit of L or of H flipped and the
checksum byte as sent fails CHECKSUM and leaves VALUE. -/
def Obligations.SingleBitDataErrorIsDetected : Prop :=
  ∀ (c l h l' h' : Byte) (j : Nat) (s : State), j < 8 →
    ((l' = l ^^^ (1#8 <<< j) ∧ h' = h) ∨ (l' = l ∧ h' = h ^^^ (1#8 <<< j))) →
      ∃ t, runWords [encode (.encRead c), encode (.decRead false l' h'
          (crc8 [s.devAddr ++ 0#1, c, s.devAddr ++ 1#1, l, h]))] s = .next t ∧
        t.ok = false ∧ t.cause = .checksum ∧ t.value = s.value

/-- The synthesized address bytes never leave the block: what an encoder puts in the transmit buffer does
not depend on DEV_ADDR, but for the checksum byte TX3 of a write frame. -/
def Obligations.AddressBytesStayInside : Prop :=
  (∀ (c : Byte) (v : Value) (s : State) (a : Addr), ∃ t u,
    exec (.encWrite c v) s = .next t ∧ exec (.encWrite c v) { s with devAddr := a } = .next u ∧
    wireBytes t.toRegs = [c, v.extractLsb' 0 8, v.extractLsb' 8 8, t.tx3] ∧
    wireBytes u.toRegs = [c, v.extractLsb' 0 8, v.extractLsb' 8 8, u.tx3]) ∧
  (∀ (c : Byte) (s : State) (a : Addr), ∃ t u,
    exec (.encRead c) s = .next t ∧ exec (.encRead c) { s with devAddr := a } = .next u ∧
    wireBytes t.toRegs = [c] ∧ wireBytes u.toRegs = [c])

/-- The checksum of a write frame, taken as a read's, is accepted exactly where the checksum of the first
two bytes is unchanged by the read-direction address byte; so the rule's remark that it always differs
is false, at DEV_ADDR = 0x0B for the command byte 0x1A, while it holds for 0x09 (log 13). -/
def Obligations.EchoedWriteChecksumIsAFixedPoint : Prop :=
  (∀ (a : Addr) (c l h : Byte),
    crc8 [a ++ 0#1, c, a ++ 1#1, l, h] = crc8 [a ++ 0#1, c, l, h] ↔
      crc8Step (crc8 [a ++ 0#1, c]) (a ++ 1#1) = crc8 [a ++ 0#1, c]) ∧
  (∀ l h : Byte, crc8 [0x16#8, 0x1A#8, 0x17#8, l, h] = crc8 [0x16#8, 0x1A#8, l, h]) ∧
  (∀ l h : Byte, crc8 [0x16#8, 0x09#8, 0x17#8, l, h] ≠ crc8 [0x16#8, 0x09#8, l, h])

/-- No retry: a DEC_READ, whatever its result, leaves no request pending, and a second response word is a
sequence error that changes nothing but the status. -/
def Obligations.FailedResponseIsFinal : Prop :=
  ∀ (e e' : Bool) (l h k l' h' k' : Byte) (s : State), ∃ t,
    exec (.decRead e l h k) s = .next t ∧ t.pend = false ∧
      exec (.decRead e' l' h' k') t = .next { t with ok := false, cause := .sequence }

/-- The source's operations as host sequences: what read-word and write-word give the transport, and
read-word's (VALUE, OK) for every answer of the transport. -/
def Obligations.ReadWordAndWriteWordCorrespond : Prop :=
  (∀ (c : Byte) (s : State), ∃ t, runWords [encode (.encRead c)] s = .next t ∧
    transportCall t.toRegs = ([c], 3)) ∧
  (∀ (c : Byte) (v : Value) (s : State), ∃ t, runWords (writeWordWords c v) s = .next t ∧
    transportCall t.toRegs = ([c, v.extractLsb' 0 8, v.extractLsb' 8 8,
      crc8 [s.devAddr ++ 0#1, c, v.extractLsb' 0 8, v.extractLsb' 8 8]], 0)) ∧
  (∀ (c l h k : Byte) (s : State), ∃ t, runWords (readWordWords c (some (l, h, k))) s = .next t ∧
    readWordResult t.toRegs =
      if crc8 [s.devAddr ++ 0#1, c, s.devAddr ++ 1#1, l, h] = k then (h ++ l, true) else (s.value, false)) ∧
  (∀ (c : Byte) (s : State), ∃ t, runWords (readWordWords c none) s = .next t ∧
    readWordResult t.toRegs = (s.value, false))

/-! ### NOP (spec/42_control.md) -/

/-- R90, NOP: no state changes, for its one word; any other word of its opcode is illegal. -/
def Obligations.NopResult : Prop :=
  (∀ s : State, exec .nop s = .next s) ∧
  decode 0x00000000#32 = .ok .nop ∧
  (∀ (cw : Word) (s : State), cw.extractLsb' 28 4 = 0x0#4 → cw.extractLsb' 0 28 ≠ 0#28 →
    execWord cw s = .next { s with ill := true })

/-! ### Registers: who writes them and how they read (spec/10_state.md, 20_memory.md) -/

/-- The writers column of the register inventory: a register that a word changes is one its command writes. -/
def Obligations.EveryRegisterHasOnlyItsWriters : Prop :=
  ∀ (cw : Word) (s t : State), execWord cw s = .next t →
    (t.crc ≠ s.crc → decode cw = .ok .crcClear ∨ (∃ d, decode cw = .ok (.crcByte d)) ∨
      (∃ c v, decode cw = .ok (.encWrite c v)) ∨
      (∃ l h k, decode cw = .ok (.decRead false l h k) ∧ s.pend = true)) ∧
    (t.devAddr ≠ s.devAddr → ∃ a, decode cw = .ok (.setAddr a)) ∧
    ((t.ok ≠ s.ok ∨ t.cause ≠ s.cause) → (∃ c v, decode cw = .ok (.encWrite c v)) ∨
      (∃ c, decode cw = .ok (.encRead c)) ∨ (∃ e l h k, decode cw = .ok (.decRead e l h k))) ∧
    (t.pend ≠ s.pend → if t.pend then ∃ c, decode cw = .ok (.encRead c) else
      (∃ a, decode cw = .ok (.setAddr a)) ∨ (∃ c v, decode cw = .ok (.encWrite c v)) ∨
        (∃ e l h k, decode cw = .ok (.decRead e l h k))) ∧
    (t.ill ≠ s.ill → t.ill = true ∧ ∃ e, decode cw = .error e) ∧
    ((t.txLen ≠ s.txLen ∨ t.rxLen ≠ s.rxLen ∨ t.tx0 ≠ s.tx0 ∨ t.tx1 ≠ s.tx1 ∨ t.tx2 ≠ s.tx2 ∨
        t.tx3 ≠ s.tx3) →
      (∃ c v, decode cw = .ok (.encWrite c v)) ∨ (∃ c, decode cw = .ok (.encRead c))) ∧
    (t.value ≠ s.value → t.ok = true ∧ ∃ l h k, decode cw = .ok (.decRead false l h k)) ∧
    (t.pendCmd ≠ s.pendCmd → ∃ c, decode cw = .ok (.encRead c))

/-- R31: the read port's byte at each index; STATUS is {000, CAUSE, ILL, PEND, OK}, as a number. -/
def Obligations.ReadPortMap : Prop :=
  ∀ r : Regs,
    readPort r 0x0#4 = r.crc ∧ (readPort r 0x1#4).toNat = r.devAddr.toNat ∧
    (readPort r 0x2#4).toNat = r.ok.toNat + 2 * r.pend.toNat + 4 * r.ill.toNat +
      8 * (match r.cause with | .none => 0 | .xfer => 1 | .checksum => 2 | .sequence => 3) ∧
    (readPort r 0x3#4).toNat = r.txLen.toNat ∧ (readPort r 0x4#4).toNat = r.rxLen.toNat ∧
    readPort r 0x5#4 = r.tx0 ∧ readPort r 0x6#4 = r.tx1 ∧ readPort r 0x7#4 = r.tx2 ∧ readPort r 0x8#4 = r.tx3 ∧
    (readPort r 0x9#4).toNat = r.value.toNat % 256 ∧ (readPort r 0xA#4).toNat = r.value.toNat / 256 ∧
    readPort r 0xB#4 = r.pendCmd ∧ ∀ idx : ReadIndex, 0xC#4 ≤ idx → readPort r idx = 0x00#8

/-- VALUE read as two bytes with no step between them is VALUE. -/
def Obligations.ValueHalvesDoNotTear : Prop :=
  ∀ r : Regs, (readPort r 0xA#4 ++ readPort r 0x9#4 : BitVec 16) = r.value

/-- AW is DEV_ADDR doubled, at most 0xFE, and AR is AW | 1: the address bytes never lose a bit. -/
def Obligations.AddressBytesAreTheDoubledAddress : Prop :=
  ∀ a : Addr, (addrWrite a).toNat = 2 * a.toNat ∧ (addrWrite a).toNat ≤ 0xFE ∧
    addrRead a = addrWrite a ||| 0x01#8 ∧ (addrRead a).toNat = 2 * a.toNat + 1

/-- R12: DEV_ADDR changes only by SET_ADDR, which takes all 128 values; its reset value is 0x0B. -/
def Obligations.DevAddrChangesOnlyBySetAddr : Prop :=
  (∀ (cw : Word) (s t : State), execWord cw s = .next t → t.devAddr ≠ s.devAddr →
    decode cw = .ok (.setAddr t.devAddr)) ∧
  (∀ (a : Addr) (s : State), ∃ t, exec (.setAddr a) s = .next t ∧ t.devAddr = a) ∧
  State.reset.devAddr = 0x0B#7

/-- R15: what each command does to STATUS.OK. -/
def Obligations.OkAfterEachCommand : Prop :=
  (∀ (c : Byte) (v : Value) (s : State), ∃ t, exec (.encWrite c v) s = .next t ∧ t.ok = true) ∧
  (∀ (c : Byte) (s : State), ∃ t, exec (.encRead c) s = .next t ∧ t.ok = true) ∧
  (∀ (e : Bool) (l h k : Byte) (s : State), ∃ t, exec (.decRead e l h k) s = .next t ∧
    (t.ok = true ↔ s.pend = true ∧ e = false ∧
      crc8 [s.devAddr ++ 0#1, s.pendCmd, s.devAddr ++ 1#1, l, h] = k)) ∧
  (∀ (cw : Word) (s : State),
    (decode cw = .ok .nop ∨ decode cw = .ok .crcClear ∨ (∃ d, decode cw = .ok (.crcByte d)) ∨
      (∃ a, decode cw = .ok (.setAddr a)) ∨ ∃ e, decode cw = .error e) →
    ∃ t, execWord cw s = .next t ∧ t.ok = s.ok) ∧
  State.reset.ok = false

/-- R17: ILL is set by an illegal word, cleared by reset alone, and read by no command. -/
def Obligations.IllIsStickyAndUnread : Prop :=
  (∀ s t : State, step s = .next t → s.nextEvent = .reset → t.ill = false) ∧
  (∀ s t : State, step s = .next t → s.nextEvent ≠ .reset →
    (t.ill = true ↔ s.ill = true ∨ ∃ cw e, s.nextEvent = .command cw ∧ decode cw = .error e)) ∧
  (∀ (i : Instr) (s : State) (b : Bool), ∃ t, exec i s = .next t ∧
    exec i { s with ill := b } = .next { t with ill := b }) ∧
  State.reset.ill = false

/-- R18: who sets and clears the pending request, and who latches its command byte. -/
def Obligations.PendingRequestLifetime : Prop :=
  (∀ (c : Byte) (s : State), ∃ t, exec (.encRead c) s = .next t ∧ t.pend = true ∧ t.pendCmd = c) ∧
  (∀ (e : Bool) (l h k : Byte) (s : State), ∃ t, exec (.decRead e l h k) s = .next t ∧
    t.pend = false ∧ t.pendCmd = s.pendCmd) ∧
  (∀ (c : Byte) (v : Value) (s : State), ∃ t, exec (.encWrite c v) s = .next t ∧
    t.pend = false ∧ t.pendCmd = s.pendCmd) ∧
  (∀ (a : Addr) (s : State), ∃ t, exec (.setAddr a) s = .next t ∧
    t.pend = false ∧ t.pendCmd = s.pendCmd) ∧
  (∀ (cw : Word) (s : State),
    (decode cw = .ok .nop ∨ decode cw = .ok .crcClear ∨ (∃ d, decode cw = .ok (.crcByte d)) ∨
      ∃ e, decode cw = .error e) →
    ∃ t, execWord cw s = .next t ∧ t.pend = s.pend ∧ t.pendCmd = s.pendCmd) ∧
  State.reset.pend = false ∧ State.reset.pendCmd = 0x00#8

/-- R20: VALUE is written only by a DEC_READ that ends with OK = 1, as {H, L}; a failed one leaves it. -/
def Obligations.ValueOnlyOnSuccess : Prop :=
  (∀ (e : Bool) (l h k : Byte) (s : State), ∃ t, exec (.decRead e l h k) s = .next t ∧
    (t.ok = true → t.value = h ++ l) ∧ (t.ok = false → t.value = s.value)) ∧
  (∀ (i : Instr) (s t : State), exec i s = .next t → (∀ e l h k, i ≠ .decRead e l h k) →
    t.value = s.value) ∧
  State.reset.value = 0x0000#16

/-- The transmit buffer and its lengths outlive every word that is not an encoder's, so the host can hand
them to the transport late. -/
def Obligations.TransmitBufferOutlivesOtherCommands : Prop :=
  ∀ (cw : Word) (s : State),
    (∀ c v, decode cw ≠ .ok (.encWrite c v)) → (∀ c, decode cw ≠ .ok (.encRead c)) →
      ∃ t, execWord cw s = .next t ∧ transportCall t.toRegs = transportCall s.toRegs ∧
        t.txLen = s.txLen ∧ t.rxLen = s.rxLen ∧ t.tx0 = s.tx0 ∧ t.tx1 = s.tx1 ∧ t.tx2 = s.tx2 ∧ t.tx3 = s.tx3

/-! ### Invariants and whole-machine rules -/

/-- The register relations hold after reset. -/
def Obligations.RegisterRelationsHoldAtReset : Prop := Inv State.reset

/-- Every step keeps the register relations, whatever the host presents. -/
def Obligations.EveryStepKeepsRegisterRelations : Prop :=
  ∀ s t : State, Inv s → step s = .next t → Inv t

/-- Every step keeps the write frame's checksum relation. -/
def Obligations.EveryStepKeepsWriteFrameChecked : Prop :=
  ∀ s t : State, WriteFrameChecked s.toRegs → step s = .next t → WriteFrameChecked t.toRegs

/-- A request that stays pending through a step stays pending at the address it was made at. -/
def Obligations.PendingRequestKeepsItsAddress : Prop :=
  ∀ s t : State, step s = .next t → t.devAddr ≠ s.devAddr → t.pend = false

/-- Request and response pairing: between ENC_READ and the DEC_READ with its response, any number of CRC
commands, NOPs and illegal words leave the response accepted. -/
def Obligations.RequestSurvivesHarmlessWords : Prop :=
  ∀ (c l h k : Byte) (ws : List Word) (s : State),
    (∀ w ∈ ws, decode w = .ok .nop ∨ decode w = .ok .crcClear ∨ (∃ d, decode w = .ok (.crcByte d)) ∨
      ∃ e, decode w = .error e) →
    k = crc8 [s.devAddr ++ 0#1, c, s.devAddr ++ 1#1, l, h] →
      ∃ t, runWords (encode (.encRead c) :: (ws ++ [encode (.decRead false l h k)])) s = .next t ∧
        t.ok = true ∧ t.cause = .none ∧ t.value = h ++ l

/-- Request and response pairing: an ENC_WRITE or a SET_ADDR between them cancels the request, and the
response then fails SEQUENCE and leaves VALUE and CRC as it finds them. -/
def Obligations.CancelledRequestIsASequenceError : Prop :=
  ∀ (c : Byte) (i : Instr) (e : Bool) (l h k : Byte) (s : State),
    ((∃ c' v, i = .encWrite c' v) ∨ ∃ a, i = .setAddr a) →
      ∃ u t, runWords [encode (.encRead c), encode i] s = .next u ∧
        runWords [encode (.decRead e l h k)] u = .next t ∧
        t = { u with ok := false, cause := .sequence } ∧ t.value = s.value
end

