-- ==== Sys2Proof/Laws/State.lean ====
section
/-! SUPPORT. One lemma per field per update of the state, each true by rfl. -/

namespace Sys2Proof.Machine

variable (s : State)

/-! ### setResult -/

@[simp] theorem State.setResult_crc (b : Bool) (c : Cause) : (s.setResult b c).crc = s.crc := rfl
@[simp] theorem State.setResult_devAddr (b : Bool) (c : Cause) : (s.setResult b c).devAddr = s.devAddr := rfl
@[simp] theorem State.setResult_ok (b : Bool) (c : Cause) : (s.setResult b c).ok = b := rfl
@[simp] theorem State.setResult_pend (b : Bool) (c : Cause) : (s.setResult b c).pend = s.pend := rfl
@[simp] theorem State.setResult_ill (b : Bool) (c : Cause) : (s.setResult b c).ill = s.ill := rfl
@[simp] theorem State.setResult_cause (b : Bool) (c : Cause) : (s.setResult b c).cause = c := rfl
@[simp] theorem State.setResult_txLen (b : Bool) (c : Cause) : (s.setResult b c).txLen = s.txLen := rfl
@[simp] theorem State.setResult_rxLen (b : Bool) (c : Cause) : (s.setResult b c).rxLen = s.rxLen := rfl
@[simp] theorem State.setResult_tx0 (b : Bool) (c : Cause) : (s.setResult b c).tx0 = s.tx0 := rfl
@[simp] theorem State.setResult_tx1 (b : Bool) (c : Cause) : (s.setResult b c).tx1 = s.tx1 := rfl
@[simp] theorem State.setResult_tx2 (b : Bool) (c : Cause) : (s.setResult b c).tx2 = s.tx2 := rfl
@[simp] theorem State.setResult_tx3 (b : Bool) (c : Cause) : (s.setResult b c).tx3 = s.tx3 := rfl
@[simp] theorem State.setResult_value (b : Bool) (c : Cause) : (s.setResult b c).value = s.value := rfl
@[simp] theorem State.setResult_pendCmd (b : Bool) (c : Cause) : (s.setResult b c).pendCmd = s.pendCmd := rfl
@[simp] theorem State.setResult_inputs (b : Bool) (c : Cause) : (s.setResult b c).inputs = s.inputs := rfl

/-! ### setPend -/

@[simp] theorem State.setPend_crc (p : Bool) : (s.setPend p).crc = s.crc := rfl
@[simp] theorem State.setPend_devAddr (p : Bool) : (s.setPend p).devAddr = s.devAddr := rfl
@[simp] theorem State.setPend_ok (p : Bool) : (s.setPend p).ok = s.ok := rfl
@[simp] theorem State.setPend_pend (p : Bool) : (s.setPend p).pend = p := rfl
@[simp] theorem State.setPend_ill (p : Bool) : (s.setPend p).ill = s.ill := rfl
@[simp] theorem State.setPend_cause (p : Bool) : (s.setPend p).cause = s.cause := rfl
@[simp] theorem State.setPend_txLen (p : Bool) : (s.setPend p).txLen = s.txLen := rfl
@[simp] theorem State.setPend_rxLen (p : Bool) : (s.setPend p).rxLen = s.rxLen := rfl
@[simp] theorem State.setPend_tx0 (p : Bool) : (s.setPend p).tx0 = s.tx0 := rfl
@[simp] theorem State.setPend_tx1 (p : Bool) : (s.setPend p).tx1 = s.tx1 := rfl
@[simp] theorem State.setPend_tx2 (p : Bool) : (s.setPend p).tx2 = s.tx2 := rfl
@[simp] theorem State.setPend_tx3 (p : Bool) : (s.setPend p).tx3 = s.tx3 := rfl
@[simp] theorem State.setPend_value (p : Bool) : (s.setPend p).value = s.value := rfl
@[simp] theorem State.setPend_pendCmd (p : Bool) : (s.setPend p).pendCmd = s.pendCmd := rfl
@[simp] theorem State.setPend_inputs (p : Bool) : (s.setPend p).inputs = s.inputs := rfl

/-! ### setIll -/

@[simp] theorem State.setIll_crc : s.setIll.crc = s.crc := rfl
@[simp] theorem State.setIll_devAddr : s.setIll.devAddr = s.devAddr := rfl
@[simp] theorem State.setIll_ok : s.setIll.ok = s.ok := rfl
@[simp] theorem State.setIll_pend : s.setIll.pend = s.pend := rfl
@[simp] theorem State.setIll_ill : s.setIll.ill = true := rfl
@[simp] theorem State.setIll_cause : s.setIll.cause = s.cause := rfl
@[simp] theorem State.setIll_txLen : s.setIll.txLen = s.txLen := rfl
@[simp] theorem State.setIll_rxLen : s.setIll.rxLen = s.rxLen := rfl
@[simp] theorem State.setIll_tx0 : s.setIll.tx0 = s.tx0 := rfl
@[simp] theorem State.setIll_tx1 : s.setIll.tx1 = s.tx1 := rfl
@[simp] theorem State.setIll_tx2 : s.setIll.tx2 = s.tx2 := rfl
@[simp] theorem State.setIll_tx3 : s.setIll.tx3 = s.tx3 := rfl
@[simp] theorem State.setIll_value : s.setIll.value = s.value := rfl
@[simp] theorem State.setIll_pendCmd : s.setIll.pendCmd = s.pendCmd := rfl
@[simp] theorem State.setIll_inputs : s.setIll.inputs = s.inputs := rfl

/-! ### setCrc -/

@[simp] theorem State.setCrc_crc (r : Byte) : (s.setCrc r).crc = r := rfl
@[simp] theorem State.setCrc_devAddr (r : Byte) : (s.setCrc r).devAddr = s.devAddr := rfl
@[simp] theorem State.setCrc_ok (r : Byte) : (s.setCrc r).ok = s.ok := rfl
@[simp] theorem State.setCrc_pend (r : Byte) : (s.setCrc r).pend = s.pend := rfl
@[simp] theorem State.setCrc_ill (r : Byte) : (s.setCrc r).ill = s.ill := rfl
@[simp] theorem State.setCrc_cause (r : Byte) : (s.setCrc r).cause = s.cause := rfl
@[simp] theorem State.setCrc_txLen (r : Byte) : (s.setCrc r).txLen = s.txLen := rfl
@[simp] theorem State.setCrc_rxLen (r : Byte) : (s.setCrc r).rxLen = s.rxLen := rfl
@[simp] theorem State.setCrc_tx0 (r : Byte) : (s.setCrc r).tx0 = s.tx0 := rfl
@[simp] theorem State.setCrc_tx1 (r : Byte) : (s.setCrc r).tx1 = s.tx1 := rfl
@[simp] theorem State.setCrc_tx2 (r : Byte) : (s.setCrc r).tx2 = s.tx2 := rfl
@[simp] theorem State.setCrc_tx3 (r : Byte) : (s.setCrc r).tx3 = s.tx3 := rfl
@[simp] theorem State.setCrc_value (r : Byte) : (s.setCrc r).value = s.value := rfl
@[simp] theorem State.setCrc_pendCmd (r : Byte) : (s.setCrc r).pendCmd = s.pendCmd := rfl
@[simp] theorem State.setCrc_inputs (r : Byte) : (s.setCrc r).inputs = s.inputs := rfl

/-! ### setDevAddr -/

@[simp] theorem State.setDevAddr_crc (a : Addr) : (s.setDevAddr a).crc = s.crc := rfl
@[simp] theorem State.setDevAddr_devAddr (a : Addr) : (s.setDevAddr a).devAddr = a := rfl
@[simp] theorem State.setDevAddr_ok (a : Addr) : (s.setDevAddr a).ok = s.ok := rfl
@[simp] theorem State.setDevAddr_pend (a : Addr) : (s.setDevAddr a).pend = s.pend := rfl
@[simp] theorem State.setDevAddr_ill (a : Addr) : (s.setDevAddr a).ill = s.ill := rfl
@[simp] theorem State.setDevAddr_cause (a : Addr) : (s.setDevAddr a).cause = s.cause := rfl
@[simp] theorem State.setDevAddr_txLen (a : Addr) : (s.setDevAddr a).txLen = s.txLen := rfl
@[simp] theorem State.setDevAddr_rxLen (a : Addr) : (s.setDevAddr a).rxLen = s.rxLen := rfl
@[simp] theorem State.setDevAddr_tx0 (a : Addr) : (s.setDevAddr a).tx0 = s.tx0 := rfl
@[simp] theorem State.setDevAddr_tx1 (a : Addr) : (s.setDevAddr a).tx1 = s.tx1 := rfl
@[simp] theorem State.setDevAddr_tx2 (a : Addr) : (s.setDevAddr a).tx2 = s.tx2 := rfl
@[simp] theorem State.setDevAddr_tx3 (a : Addr) : (s.setDevAddr a).tx3 = s.tx3 := rfl
@[simp] theorem State.setDevAddr_value (a : Addr) : (s.setDevAddr a).value = s.value := rfl
@[simp] theorem State.setDevAddr_pendCmd (a : Addr) : (s.setDevAddr a).pendCmd = s.pendCmd := rfl
@[simp] theorem State.setDevAddr_inputs (a : Addr) : (s.setDevAddr a).inputs = s.inputs := rfl

/-! ### setValue -/

@[simp] theorem State.setValue_crc (v : Value) : (s.setValue v).crc = s.crc := rfl
@[simp] theorem State.setValue_devAddr (v : Value) : (s.setValue v).devAddr = s.devAddr := rfl
@[simp] theorem State.setValue_ok (v : Value) : (s.setValue v).ok = s.ok := rfl
@[simp] theorem State.setValue_pend (v : Value) : (s.setValue v).pend = s.pend := rfl
@[simp] theorem State.setValue_ill (v : Value) : (s.setValue v).ill = s.ill := rfl
@[simp] theorem State.setValue_cause (v : Value) : (s.setValue v).cause = s.cause := rfl
@[simp] theorem State.setValue_txLen (v : Value) : (s.setValue v).txLen = s.txLen := rfl
@[simp] theorem State.setValue_rxLen (v : Value) : (s.setValue v).rxLen = s.rxLen := rfl
@[simp] theorem State.setValue_tx0 (v : Value) : (s.setValue v).tx0 = s.tx0 := rfl
@[simp] theorem State.setValue_tx1 (v : Value) : (s.setValue v).tx1 = s.tx1 := rfl
@[simp] theorem State.setValue_tx2 (v : Value) : (s.setValue v).tx2 = s.tx2 := rfl
@[simp] theorem State.setValue_tx3 (v : Value) : (s.setValue v).tx3 = s.tx3 := rfl
@[simp] theorem State.setValue_value (v : Value) : (s.setValue v).value = v := rfl
@[simp] theorem State.setValue_pendCmd (v : Value) : (s.setValue v).pendCmd = s.pendCmd := rfl
@[simp] theorem State.setValue_inputs (v : Value) : (s.setValue v).inputs = s.inputs := rfl

/-! ### request -/

@[simp] theorem State.request_crc (c : Byte) : (s.request c).crc = s.crc := rfl
@[simp] theorem State.request_devAddr (c : Byte) : (s.request c).devAddr = s.devAddr := rfl
@[simp] theorem State.request_ok (c : Byte) : (s.request c).ok = s.ok := rfl
@[simp] theorem State.request_pend (c : Byte) : (s.request c).pend = true := rfl
@[simp] theorem State.request_ill (c : Byte) : (s.request c).ill = s.ill := rfl
@[simp] theorem State.request_cause (c : Byte) : (s.request c).cause = s.cause := rfl
@[simp] theorem State.request_txLen (c : Byte) : (s.request c).txLen = s.txLen := rfl
@[simp] theorem State.request_rxLen (c : Byte) : (s.request c).rxLen = s.rxLen := rfl
@[simp] theorem State.request_tx0 (c : Byte) : (s.request c).tx0 = s.tx0 := rfl
@[simp] theorem State.request_tx1 (c : Byte) : (s.request c).tx1 = s.tx1 := rfl
@[simp] theorem State.request_tx2 (c : Byte) : (s.request c).tx2 = s.tx2 := rfl
@[simp] theorem State.request_tx3 (c : Byte) : (s.request c).tx3 = s.tx3 := rfl
@[simp] theorem State.request_value (c : Byte) : (s.request c).value = s.value := rfl
@[simp] theorem State.request_pendCmd (c : Byte) : (s.request c).pendCmd = c := rfl
@[simp] theorem State.request_inputs (c : Byte) : (s.request c).inputs = s.inputs := rfl

/-! ### loadTx -/

@[simp] theorem State.loadTx_crc (b0 b1 b2 b3 : Byte) (m n : Nat) : (s.loadTx b0 b1 b2 b3 m n).crc = s.crc := rfl
@[simp] theorem State.loadTx_devAddr (b0 b1 b2 b3 : Byte) (m n : Nat) : (s.loadTx b0 b1 b2 b3 m n).devAddr = s.devAddr := rfl
@[simp] theorem State.loadTx_ok (b0 b1 b2 b3 : Byte) (m n : Nat) : (s.loadTx b0 b1 b2 b3 m n).ok = s.ok := rfl
@[simp] theorem State.loadTx_pend (b0 b1 b2 b3 : Byte) (m n : Nat) : (s.loadTx b0 b1 b2 b3 m n).pend = s.pend := rfl
@[simp] theorem State.loadTx_ill (b0 b1 b2 b3 : Byte) (m n : Nat) : (s.loadTx b0 b1 b2 b3 m n).ill = s.ill := rfl
@[simp] theorem State.loadTx_cause (b0 b1 b2 b3 : Byte) (m n : Nat) : (s.loadTx b0 b1 b2 b3 m n).cause = s.cause := rfl
@[simp] theorem State.loadTx_txLen (b0 b1 b2 b3 : Byte) (m n : Nat) : (s.loadTx b0 b1 b2 b3 m n).txLen = BitVec.ofNat 3 m := rfl
@[simp] theorem State.loadTx_rxLen (b0 b1 b2 b3 : Byte) (m n : Nat) : (s.loadTx b0 b1 b2 b3 m n).rxLen = BitVec.ofNat 2 n := rfl
@[simp] theorem State.loadTx_tx0 (b0 b1 b2 b3 : Byte) (m n : Nat) : (s.loadTx b0 b1 b2 b3 m n).tx0 = b0 := rfl
@[simp] theorem State.loadTx_tx1 (b0 b1 b2 b3 : Byte) (m n : Nat) : (s.loadTx b0 b1 b2 b3 m n).tx1 = b1 := rfl
@[simp] theorem State.loadTx_tx2 (b0 b1 b2 b3 : Byte) (m n : Nat) : (s.loadTx b0 b1 b2 b3 m n).tx2 = b2 := rfl
@[simp] theorem State.loadTx_tx3 (b0 b1 b2 b3 : Byte) (m n : Nat) : (s.loadTx b0 b1 b2 b3 m n).tx3 = b3 := rfl
@[simp] theorem State.loadTx_value (b0 b1 b2 b3 : Byte) (m n : Nat) : (s.loadTx b0 b1 b2 b3 m n).value = s.value := rfl
@[simp] theorem State.loadTx_pendCmd (b0 b1 b2 b3 : Byte) (m n : Nat) : (s.loadTx b0 b1 b2 b3 m n).pendCmd = s.pendCmd := rfl
@[simp] theorem State.loadTx_inputs (b0 b1 b2 b3 : Byte) (m n : Nat) : (s.loadTx b0 b1 b2 b3 m n).inputs = s.inputs := rfl

/-! ### Updates that are others by name -/

@[simp] theorem State.succeed_eq : s.succeed = s.setResult true .none := rfl
@[simp] theorem State.fail_eq (c : Cause) : s.fail c = s.setResult false c := rfl
@[simp] theorem State.illegal_eq : s.illegal = s.setIll := rfl

/-! ### resetRegs, dropInput, present -/

@[simp] theorem State.resetRegs_toRegs : s.resetRegs.toRegs = Regs.reset := rfl
@[simp] theorem State.resetRegs_inputs : s.resetRegs.inputs = s.inputs := rfl
@[simp] theorem State.dropInput_toRegs : s.dropInput.toRegs = s.toRegs := rfl
@[simp] theorem State.dropInput_inputs : s.dropInput.inputs = s.inputs.tail := rfl
@[simp] theorem State.present_toRegs (ps : List PortInput) : (s.present ps).toRegs = s.toRegs := rfl
@[simp] theorem State.present_inputs (ps : List PortInput) : (s.present ps).inputs = ps ++ s.inputs := rfl
@[simp] theorem State.reset_toRegs : State.reset.toRegs = Regs.reset := rfl
@[simp] theorem State.reset_inputs : State.reset.inputs = [] := rfl

/-! ### The reset values -/

@[simp] theorem Regs.reset_crc : Regs.reset.crc = 0x00#8 := rfl
@[simp] theorem Regs.reset_devAddr : Regs.reset.devAddr = 0x0B#7 := rfl
@[simp] theorem Regs.reset_ok : Regs.reset.ok = false := rfl
@[simp] theorem Regs.reset_pend : Regs.reset.pend = false := rfl
@[simp] theorem Regs.reset_ill : Regs.reset.ill = false := rfl
@[simp] theorem Regs.reset_cause : Regs.reset.cause = .none := rfl
@[simp] theorem Regs.reset_txLen : Regs.reset.txLen = 0#3 := rfl
@[simp] theorem Regs.reset_rxLen : Regs.reset.rxLen = 0#2 := rfl
@[simp] theorem Regs.reset_tx0 : Regs.reset.tx0 = 0x00#8 := rfl
@[simp] theorem Regs.reset_tx1 : Regs.reset.tx1 = 0x00#8 := rfl
@[simp] theorem Regs.reset_tx2 : Regs.reset.tx2 = 0x00#8 := rfl
@[simp] theorem Regs.reset_tx3 : Regs.reset.tx3 = 0x00#8 := rfl
@[simp] theorem Regs.reset_value : Regs.reset.value = 0x0000#16 := rfl
@[simp] theorem Regs.reset_pendCmd : Regs.reset.pendCmd = 0x00#8 := rfl

end Sys2Proof.Machine
end

