-- ==== Sys2Proof/Laws/Ops.lean ====
section
/-! SUPPORT. What the shared operations do, said once each. -/

namespace Sys2Proof.Machine

/-! ### The generator -/

/-- The input byte is not reflected (spec/40_crc.md R60). -/
@[simp] theorem crcIn_eq (d : Byte) : crcIn d = d := rfl

/-- The result is the running value (spec/40_crc.md R61). -/
@[simp] theorem crcOut_eq (r : Byte) : crcOut r = r := by simp [crcOut, Config.crcRefOut, Config.crcXorOut]

theorem crcShifts_succ (n : Nat) (t : Byte) : crcShifts (n + 1) t = crcShifts n (crcShift t) := rfl

/-- A shift is linear: the polynomial is added once for each operand whose high bit is set. -/
theorem crcShift_xor (a b : Byte) : crcShift (a ^^^ b) = crcShift a ^^^ crcShift b := by
  have cancel (p x y : Byte) : x ^^^ y = p ^^^ x ^^^ (p ^^^ y) := by
    rw [show p ^^^ x ^^^ (p ^^^ y) = p ^^^ p ^^^ (x ^^^ y) by ac_rfl, BitVec.xor_self, BitVec.zero_xor]
  simp only [crcShift, BitVec.msb_xor, BitVec.shiftLeft_xor_distrib]
  cases a.msb <;> cases b.msb <;> simp only [Bool.xor_true, Bool.xor_false, Bool.not_true, Bool.not_false,
    if_true, Bool.false_eq_true, if_false]
  · ac_rfl
  · ac_rfl
  · rw [BitVec.xor_comm _ Config.crcPoly, BitVec.xor_comm _ Config.crcPoly]
    exact cancel _ _ _

theorem crcShifts_xor (n : Nat) (a b : Byte) : crcShifts n (a ^^^ b) = crcShifts n a ^^^ crcShifts n b := by
  induction n generalizing a b with
  | zero => rfl
  | succ n ih => simp only [crcShifts, crcShift_xor, ih]

/-- The step depends on its two operands through their XOR alone (spec/40_crc.md R60). -/
theorem crc8Step_eq (r d : Byte) : crc8Step r d = crcShifts 8 (r ^^^ d) := rfl

theorem crc8From_nil (r : Byte) : crc8From r [] = r := rfl

theorem crc8From_cons (r b : Byte) (bs : List Byte) : crc8From r (b :: bs) = crc8From (crc8Step r b) bs := rfl

theorem crc8_eq_crc8From (bs : List Byte) : crc8 bs = crc8From 0x00#8 bs := crcOut_eq _

/-! ### The frame buffers -/

/-- The buffers have the lengths the source checksums (spec/00_scope.md R5: WRITE_CRC_LEN, READ_CRC_LEN). -/
theorem buffer_lengths (a : Addr) (c l h : Byte) (v : Value) :
    (writeBuffer a c v).length = Config.writeCrcLen ∧ (readBuffer a c l h).length = Config.readCrcLen :=
  ⟨rfl, rfl⟩

/-- The named widths are the widths of the types (spec/00_scope.md R5). -/
theorem config_widths :
    Byte = BitVec Config.crcWidth ∧ Byte = BitVec Config.cmdWidth ∧ Addr = BitVec Config.addrWidth ∧
      Value = BitVec Config.valueWidth :=
  ⟨rfl, rfl, rfl, rfl⟩

/-! ### What the host presents -/

@[simp] theorem PortInput.event_reset (c : Option Word) : PortInput.event ⟨true, c⟩ = .reset := rfl
@[simp] theorem PortInput.event_word (cw : Word) : PortInput.event ⟨false, some cw⟩ = .command cw := rfl
@[simp] theorem PortInput.event_idle : PortInput.event ⟨false, none⟩ = .idle := rfl
@[simp] theorem PortInput.event_ofWord (cw : Word) : (PortInput.ofWord cw).event = .command cw := rfl

theorem State.nextEvent_nil {s : State} (h : s.inputs = []) : s.nextEvent = .idle := by
  simp [State.nextEvent, h]

theorem State.nextEvent_cons {s : State} {p : PortInput} {ps : List PortInput} (h : s.inputs = p :: ps) :
    s.nextEvent = p.event := by
  simp [State.nextEvent, h]

end Sys2Proof.Machine
end

