-- ==== Sys2Proof/Laws/PerInstr.lean ====
section
/-! SUPPORT. Facts about every command as syntax, one lemma per constructor. -/

/-- The encoding matches its row of the opcode map: `(cw & mask) == match` (spec/30_encoding.md R48). -/
def Sys2Proof.Laws.MatchesRow.Statement (i : Sys2Proof.Instr) : Prop :=
  Sys2Proof.encode i &&& Sys2Proof.rowMask i = Sys2Proof.rowMatch i

namespace Sys2Proof.Laws.MatchesRow

theorem nop : Statement .nop := by unfold Statement; decide

theorem crcClear : Statement .crcClear := by unfold Statement; decide

theorem crcByte (d : Byte) : Statement (.crcByte d) := by
  unfold Statement encode rowMask rowMatch
  ext i hi; interval_cases i <;> simp [placeField]

theorem setAddr (a : Addr) : Statement (.setAddr a) := by
  unfold Statement encode rowMask rowMatch
  ext i hi; interval_cases i <;> simp [placeField]

theorem encWrite (c : Byte) (v : Value) : Statement (.encWrite c v) := by
  unfold Statement encode rowMask rowMatch
  ext i hi; interval_cases i <;> simp [placeField]

theorem encRead (c : Byte) : Statement (.encRead c) := by
  unfold Statement encode rowMask rowMatch
  ext i hi; interval_cases i <;> simp [placeField]

theorem decRead (e : Bool) (l h k : Byte) : Statement (.decRead e l h k) := by
  unfold Statement encode rowMask rowMatch
  ext i hi; interval_cases i <;> simp [placeField]

end Sys2Proof.Laws.MatchesRow
end

