-- ==== Sys2Proof/Laws/Step.lean ====
section
/-! SUPPORT. What a command and a step can do, said once: later proofs cite these and unfold neither. -/

namespace Sys2Proof.Machine

/-- Checking a response is one of two: the checksum matched and VALUE is taken, or it did not and VALUE
stays (spec/41_frame.md R73). -/
theorem checkResponse_cases (sum l h k : Byte) (s : State) :
    (sum = k ∧ checkResponse sum l h k s =
        { s with crc := sum, pend := false, value := joinBytes h l, ok := true, cause := .none }) ∨
      (sum ≠ k ∧ checkResponse sum l h k s =
        { s with crc := sum, pend := false, ok := false, cause := .checksum }) := by
  by_cases hk : sum = k
  · exact .inl ⟨hk, if_pos hk⟩
  · exact .inr ⟨hk, if_neg hk⟩

/-- Everything DEC_READ can do (spec/41_frame.md R73). -/
theorem execDecRead_cases {e : Bool} {l h k : Byte} {s t : State} (hx : execDecRead e l h k s = .next t) :
    (s.pend = false ∧ t = { s with ok := false, cause := .sequence }) ∨
    (s.pend = true ∧ e = true ∧ t = { s with ok := false, cause := .xfer, pend := false }) ∨
    (s.pend = true ∧ e = false ∧ crc8 (readBuffer s.devAddr s.pendCmd l h) = k ∧
      t = { s with crc := k, pend := false, value := joinBytes h l, ok := true, cause := .none }) ∨
    (s.pend = true ∧ e = false ∧ crc8 (readBuffer s.devAddr s.pendCmd l h) ≠ k ∧
      t = { s with crc := crc8 (readBuffer s.devAddr s.pendCmd l h), pend := false, ok := false,
                   cause := .checksum }) := by
  unfold execDecRead at hx
  split at hx
  · rename_i hp
    cases hx
    exact .inl ⟨hp, rfl⟩
  · rename_i hp
    have hp : s.pend = true := by simpa using hp
    split at hx
    · rename_i he
      cases hx
      exact .inr (.inl ⟨hp, he, rfl⟩)
    · rename_i he
      have he : e = false := by simpa using he
      cases hx
      obtain ⟨hk, ht⟩ | ⟨hk, ht⟩ := checkResponse_cases (crc8 (readBuffer s.devAddr s.pendCmd l h)) l h k s
      · exact .inr (.inr (.inl ⟨hp, he, hk, by rw [ht, hk]⟩))
      · exact .inr (.inr (.inr ⟨hp, he, hk, ht⟩))

/-- A word's step, by what the decoder says of it (spec/30_encoding.md R51). -/
theorem execWord_ok {cw : Word} {i : Instr} (h : decode cw = .ok i) (s : State) : execWord cw s = exec i s := by
  simp [execWord, h]

theorem execWord_error {cw : Word} {e : Illegal} (h : decode cw = .error e) (s : State) :
    execWord cw s = .next { s with ill := true } := by
  simp only [execWord, h]; rfl

/-- Everything a step can do, by what the host presents next (spec/00_scope.md R6). -/
theorem step_cases (s : State) :
    (s.nextEvent = .idle ∧ step s = .next s.dropInput) ∨
    (s.nextEvent = .reset ∧ step s = .next s.dropInput.resetRegs) ∨
    (∃ cw, s.nextEvent = .command cw ∧ step s = execWord cw s.dropInput) := by
  cases h : s.nextEvent with
  | idle => exact .inl ⟨rfl, by simp [step, h]⟩
  | reset => exact .inr (.inl ⟨rfl, by simp [step, h]⟩)
  | command cw => exact .inr (.inr ⟨cw, rfl, by simp [step, h]⟩)

/-- The word placed for the next step is what that step presents to the block. -/
theorem withFetchWord_nextEvent (s : State) (nbits w : Nat) :
    (s.withFetchWord nbits w).nextEvent = .command (tableWord nbits w) := rfl

/-- Presenting a word for the next step and taking it away is no change (log 3). -/
theorem withFetchWord_dropInput (s : State) (nbits w : Nat) : (s.withFetchWord nbits w).dropInput = s := rfl

end Sys2Proof.Machine
end

