-- ==== Sys2Proof/Laws/Run.lean ====
section
/-! SUPPORT. Runs one word at a time: later proofs about runs cite `runWords_cons` and unfold no run. -/

namespace Sys2Proof.Machine

/-- The host's later presentations do not matter to a command (spec/10_state.md R22). -/
theorem exec_withInputs {i : Instr} {s t : State} (ps : List PortInput) (h : exec i s = .next t) :
    exec i { s with inputs := ps } = .next { t with inputs := ps } := by
  cases i with
  | decRead e l h' k =>
    revert h
    simp only [exec, execDecRead, checkResponse]
    repeat' split
    all_goals (intro h; cases h; rfl)
  | _ => cases h; rfl

/-- A command leaves what the host is going to present. -/
theorem exec_keeps_inputs {i : Instr} {s t : State} (h : exec i s = .next t) : t.inputs = s.inputs := by
  cases i with
  | decRead e l h' k =>
    obtain ⟨_, rfl⟩ | ⟨_, _, rfl⟩ | ⟨_, _, _, rfl⟩ | ⟨_, _, _, rfl⟩ := execDecRead_cases h <;> rfl
  | _ => cases h; rfl

theorem execWord_withInputs {cw : Word} {s t : State} (ps : List PortInput) (h : execWord cw s = .next t) :
    execWord cw { s with inputs := ps } = .next { t with inputs := ps } := by
  unfold execWord at h ⊢
  split at h
  · exact exec_withInputs ps h
  · cases h; rfl

theorem execWord_keeps_inputs {cw : Word} {s t : State} (h : execWord cw s = .next t) : t.inputs = s.inputs := by
  unfold execWord at h
  split at h
  · exact exec_keeps_inputs h
  · cases h; rfl

/-- A step in which a word is presented first is that word's step. -/
theorem step_present_word (cw : Word) (ps : List PortInput) (s : State) :
    step (s.present (PortInput.ofWord cw :: ps)) = execWord cw (s.present ps) := rfl

@[simp] theorem runWords_nil (s : State) : runWords [] s = .next s := rfl

/-- A run over a word and then others is the run over the others from the state the word leaves. -/
theorem runWords_cons {cw : Word} {s u : State} (ws : List Word) (h : execWord cw s = .next u) :
    runWords (cw :: ws) s = runWords ws u := by
  have hs := execWord_withInputs (ws.map PortInput.ofWord ++ s.inputs) h
  simp only [runWords, runInputs, List.map_cons, List.length_cons, runSteps, step_present_word]
  rw [State.present, hs]
  simp [State.present, execWord_keeps_inputs h]

@[simp] theorem readWordWords_answer (c l h k : Byte) :
    readWordWords c (some (l, h, k)) = [encode (.encRead c), encode (.decRead false l h k)] := rfl

@[simp] theorem readWordWords_failed (c : Byte) :
    readWordWords c none = [encode (.encRead c), encode (.decRead true 0#8 0#8 0#8)] := rfl

end Sys2Proof.Machine
end

