-- ==== Sys2Proof/Tests/Slice0.lean ====
section
/-! SUPPORT. Tests, each against the spec's own vectors (spec/95_test_vectors.md, named by V-… in each
comment) or words written out from the formats of spec/30_encoding.md R46; and a witness for each
statement that has hypotheses. -/

namespace Sys2Proof.Tests

open Sys2Proof Sys2Proof.Machine

/-- The state of an outcome, to compare it. -/
def nextOf : Host.Outcome State Fault Refusal → Option State
  | .next s => some s
  | .fault _ => none
  | .refused _ => none

/-- A state in the notation of 95_test_vectors.md: CRC / DEV_ADDR / OK PEND ILL CAUSE / lengths / TX / VALUE / PEND_CMD. -/
def mk (crc : Byte) (addr : Addr) (ok pend ill : Bool) (cause : Cause) (txLen : BitVec 3) (rxLen : BitVec 2)
    (tx : Byte × Byte × Byte × Byte) (value : Value) (pendCmd : Byte) : State :=
  { crc := crc, devAddr := addr, ok := ok, pend := pend, ill := ill, cause := cause, txLen := txLen,
    rxLen := rxLen, tx0 := tx.1, tx1 := tx.2.1, tx2 := tx.2.2.1, tx3 := tx.2.2.2, value := value,
    pendCmd := pendCmd, inputs := [] }

/-- RESET, then `ENC_READ 0x09` (V-FR-3). -/
def requested : State := mk 0x00 0x0B true true false .none 1 3 (0x09, 0x00, 0x00, 0x00) 0x0000 0x09

/-! ### One step of each command -/

-- V-CTL-1
theorem test_nop_changes_nothing : nextOf (exec .nop requested) = some requested := by decide

-- V-CRC-4
theorem test_crcClear_keeps_pend : nextOf (exec .crcClear { requested with crc := 0x5A }) = some requested := by decide

-- V-CRC-1
theorem test_crcByte_bit_trace :
    nextOf (exec (.crcByte 0x16) State.reset) = some { State.reset with crc := 0x62 } := by decide

-- V-CRC-2
theorem test_crcByte_high_bit :
    nextOf (exec (.crcByte 0x00) { State.reset with crc := 0x80 }) = some { State.reset with crc := 0x89 } := by decide

-- V-FR-7
theorem test_setAddr_cancels :
    nextOf (exec (.setAddr 0x40) requested) =
      some (mk 0x00 0x40 true false false .none 1 3 (0x09, 0x00, 0x00, 0x00) 0x0000 0x09) := by decide

-- V-FR-1, word 4007AA55
theorem test_encWrite_magic :
    nextOf (exec (.encWrite 0x07 0xAA55) State.reset) =
      some (mk 0x17 0x0B true false false .none 4 0 (0x07, 0x55, 0xAA, 0x17) 0x0000 0x00) := by decide +kernel

-- V-FR-2, address 0x7F
theorem test_encWrite_other_address :
    nextOf (exec (.encWrite 0x09 0x1234) { State.reset with devAddr := 0x7F }) =
      some (mk 0x2E 0x7F true false false .none 4 0 (0x09, 0x34, 0x12, 0x2E) 0x0000 0x00) := by decide +kernel

-- V-FR-3
theorem test_encRead_request : nextOf (exec (.encRead 0x09) State.reset) = some requested := by decide

-- V-FR-4
theorem test_decRead_success :
    nextOf (exec (.decRead false 0x74 0x0E 0xB7) requested) =
      some (mk 0xB7 0x0B true false false .none 1 3 (0x09, 0x00, 0x00, 0x00) 0x0E74 0x09) := by decide +kernel

-- V-FR-8
theorem test_decRead_checksum_failure :
    nextOf (exec (.decRead false 0x74 0x0E 0xB6) requested) =
      some (mk 0xB7 0x0B false false false .checksum 1 3 (0x09, 0x00, 0x00, 0x00) 0x0000 0x09) := by decide +kernel

/-! ### Illegal words, reset, the two failures without a checksum -/

-- V-CTL-3
theorem test_illegal_keeps_request :
    nextOf (step (requested.withFetchWord 32 0x61B70E74)) =
      some (mk 0x00 0x0B true true true .none 1 3 (0x09, 0x00, 0x00, 0x00) 0x0000 0x09) := by decide

-- V-FR-12: sequence beats transport error
theorem test_sequence_beats_xfer :
    nextOf (step (State.reset.withFetchWord 32 0x68000000)) =
      some { State.reset with cause := .sequence } := by decide

-- V-FR-13
theorem test_xfer_failure :
    nextOf (step (requested.withFetchWord 32 0x68000000)) =
      some (mk 0x00 0x0B false false false .xfer 1 3 (0x09, 0x00, 0x00, 0x00) 0x0000 0x09) := by decide

-- V-RST-1, with a word presented at the same time (R120)
theorem test_reset_wins :
    nextOf (step (requested.present [⟨true, some 0x4007AA55⟩])) = some State.reset := by decide

/-! ### Decoding: a word of each command written out bit by bit (30_encoding.md R46), and illegal words (V-CTL-2) -/

theorem test_decode_nop : decode 0b0000_0000_0000_0000_0000_0000_0000_0000#32 = .ok .nop := by decide
theorem test_decode_crcClear : decode 0b0001_0000_0000_0000_0000_0000_0000_0000#32 = .ok .crcClear := by decide
theorem test_decode_crcByte :
    decode 0b0010_0000_0000_0000_0000_0000_1000_0001#32 = .ok (.crcByte 0x81) := by decide
theorem test_decode_setAddr :
    decode 0b0011_0000_0000_0000_0000_0000_0100_0001#32 = .ok (.setAddr 0x41) := by decide
theorem test_decode_encWrite :
    decode 0b0100_0000_1000_0001_1010_0000_0000_0101#32 = .ok (.encWrite 0x81 0xA005) := by decide
theorem test_decode_encRead :
    decode 0b0101_0000_1000_0001_0000_0000_0000_0000#32 = .ok (.encRead 0x81) := by decide
theorem test_decode_decRead :
    decode 0b0110_1000_1110_0011_0010_0010_0000_0001#32 = .ok (.decRead true 0x01 0x22 0xE3) := by decide
theorem test_decode_illegal :
    [0x00000001#32, 0x08000000#32, 0x10000001#32, 0x20000100#32, 0x30000080#32, 0x41000000#32, 0x50000001#32,
      0x51000000#32, 0x61000000#32, 0x64000000#32, 0x70000000#32, 0xF0000000#32, 0xFFFFFFFF#32].all
      (fun w => (decode w).toOption.isNone) = true := by decide
theorem test_decode_rejects_by_name :
    decode 0x64000000#32 = .error (.reservedBits 0x6#4) ∧ decode 0x70000000#32 = .error (.reservedOpcode 0x7#4) := by
  decide
theorem test_decodeTableWord : decodeTableWord 32 0x60402301 = some (.decRead false 0x01 0x23 0x40) := by decide

/-! ### The generator (V-CRC-3, V-SRC-4), the read port (V-RST-1, V-FR-10) -/

theorem test_crc8_sequences :
    crc8 [0x16, 0x01, 0x00] = 0xCA ∧ crc8 [0xFF, 0xFF, 0xFF, 0xFF] = 0xDE ∧ crc8 [0xAA, 0x55] = 0x36 ∧
      crc8 [0x16, 0x07, 0x55, 0xAA, 0x17] = 0x00 := by decide +kernel
theorem test_read_port_status :
    readPort { Regs.reset with cause := .checksum } 0x2 = 0x10 ∧
      readPort { Regs.reset with ok := true, pend := true, ill := true } 0x2 = 0x07 := by decide

/-! ### Well-formedness: an ill-formed line for each check, refused, and the largest operand, accepted (R52, R53) -/

theorem test_wf_byte : (AsmLine.crcByte 0x100).wellFormed = false ∧ (AsmLine.crcByte 0xFF).wellFormed = true := by decide
theorem test_wf_addr : (AsmLine.setAddr 0x80).wellFormed = false ∧ (AsmLine.setAddr 0x7F).wellFormed = true := by decide
theorem test_wf_write_command : (AsmLine.encWrite 0x100 0).wellFormed = false := by decide
theorem test_wf_write_value :
    (AsmLine.encWrite 0 0x10000).wellFormed = false ∧ (AsmLine.encWrite 0xFF 0xFFFF).wellFormed = true := by decide
theorem test_wf_request : (AsmLine.encRead 0x100).wellFormed = false := by decide
theorem test_wf_response :
    (AsmLine.decRead 0x100 0 0).wellFormed = false ∧ (AsmLine.decRead 0 0x100 0).wellFormed = false ∧
      (AsmLine.decRead 0 0 0x100).wellFormed = false ∧ (AsmLine.decReadX 0x100 0 0).wellFormed = false ∧
      (AsmLine.decReadX 0 0x100 0).wellFormed = false ∧ (AsmLine.decReadX 0 0 0x100).wellFormed = false := by decide
theorem test_wf_stream :
    (AsmLine.crcOf [0, 0x100]).wellFormed = false ∧ (AsmLine.crcBytes [0, 0x100]).wellFormed = false := by decide
theorem test_wf_empty_stream : (AsmLine.crcBytes []).wellFormed = false ∧ (AsmLine.crcOf []).wellFormed = true := by decide
theorem test_wf_word :
    (AsmLine.word 0x100000000).wellFormed = false ∧ (AsmLine.word 0xFFFFFFFF).wellFormed = true := by decide

/-! ### The assembler (programs P1 and P3, 30_encoding.md R52, R53) -/

theorem test_assemble_program :
    assemble "ENC_WRITE 0x07, 0xAA55 ; the magic code\n\nENC_READ 17\nDEC_READ 0x01,0x23,0x40\n XFER_FAIL\nWORD 0x61B70E74" =
      some [0x4007AA55, 0x50110000, 0x60402301, 0x68000000, 0x61B70E74] := by decide
theorem test_assemble_stream : assemble "CRC_OF 0x31, 0x32" = some [0x10000000, 0x20000031, 0x20000032] := by decide
theorem test_assemble_refuses_too_wide : assemble "SET_ADDR 0x80" = none := by decide
theorem test_assemble_refuses_wrong_count : assemble "ENC_READ 0x09, 0x01" = none := by decide
theorem test_assemble_refuses_bad_digit : assemble "CRC_BYTE 1F" = none := by decide

/-! ### Witnesses: a state and operands that meet each statement's hypotheses together -/

theorem witness_EncodeOfDecodeGivesTheWord : ∃ i, decode 0x68E32201#32 = .ok i := ⟨_, rfl⟩
theorem witness_OpcodeMapDecidesTheCommand :
    (∃ r ∈ opcodeMap, 0x4007AA55#32 &&& r.mask = r.pattern) ∧ 0x7#4 ≤ (0x70000000#32).extractLsb' 28 4 := by decide
theorem witness_IllegalWordsAreTheReservedOnes :
    illegalWord 0x64000000#32 ∧ illegalWord 0xF0000000#32 ∧ ¬ illegalWord 0x68FFFFFF#32 := by decide
theorem witness_OperandsAreTheirBitFields :
    decode 0x200000FF#32 = .ok (.crcByte 0xFF) ∧ decode 0x3000007F#32 = .ok (.setAddr 0x7F) ∧
      decode 0x40FFFFFF#32 = .ok (.encWrite 0xFF 0xFFFF) ∧ decode 0x50FF0000#32 = .ok (.encRead 0xFF) ∧
      decode 0x68030201#32 = .ok (.decRead true 0x01 0x02 0x03) := by decide
theorem witness_StepRunsThePresentedCommand :
    (State.reset.present [⟨false, some 0x50090000⟩]).inputs = ⟨false, some 0x50090000⟩ :: [] ∧
      decode 0x50090000#32 = .ok (.encRead 0x09) := by decide
theorem witness_IllegalWordSetsOnlyIll :
    (requested.present [⟨false, some 0x61B70E74⟩]).inputs = ⟨false, some 0x61B70E74⟩ :: [] ∧
      decode 0x61B70E74#32 = .error (.reservedBits 0x6#4) := by decide
theorem witness_IllegalWordSetsOnlyIll_stays :
    ({ requested with ill := true } : State).ill = true ∧
      (({ requested with ill := true } : State).present [⟨false, some 0x00000000⟩]).nextEvent ≠ .reset ∧
      nextOf (step (({ requested with ill := true } : State).present [⟨false, some 0x00000000⟩])) =
        some { requested with ill := true } := by decide
theorem witness_ResetSetsEveryRegisterAndWins :
    (requested.present [⟨true, some 0x10000000⟩]).inputs = ⟨true, some 0x10000000⟩ :: [] := by decide
theorem witness_NothingPresentedChangesNothing :
    requested.inputs = [] ∧ (requested.present [⟨false, none⟩]).inputs = ⟨false, none⟩ :: [] := ⟨rfl, rfl⟩
theorem witness_StepDependsOnRegistersAndPresentedInput :
    (requested.present [.ofWord 0x10000000]).toRegs = (requested.present [.ofWord 0x10000000, .reset]).toRegs ∧
      (requested.present [.ofWord 0x10000000]).nextEvent = (requested.present [.ofWord 0x10000000, .reset]).nextEvent ∧
      nextOf (step (requested.present [.ofWord 0x10000000])) = some requested := by decide
theorem witness_CrcClearResult :
    State.reset.crc = 0x00#8 ∧ (0x10000001#32).extractLsb' 28 4 = 0x1#4 ∧ (0x10000001#32).extractLsb' 0 28 ≠ 0#28 := by
  decide
theorem witness_CrcByteResult :
    0x200000FF#32 &&& 0xFFFFFF00#32 = 0x20000000#32 ∧ (0x20000100#32).extractLsb' 28 4 = 0x2#4 ∧
      (0x20000100#32).extractLsb' 8 20 ≠ 0#20 ∧ 0xFF#8 ^^^ 0x00#8 = 0x00#8 ^^^ 0xFF#8 := by decide
theorem witness_CrcIsLinear : [0x16#8, 0x01#8].length = [0x16#8, 0x00#8].length := rfl
theorem witness_SingleBitErrorChangesCrc : 0 < 8 ∧ 7 < 8 := by decide
theorem witness_SetAddrResult :
    0x3000007F#32 &&& 0xFFFFFF80#32 = 0x30000000#32 ∧ (0x30000080#32).extractLsb' 28 4 = 0x3#4 ∧
      (0x30000080#32).extractLsb' 7 21 ≠ 0#21 := by decide
theorem witness_EncWriteResult :
    0x17#8 = crc8 [State.reset.devAddr ++ 0#1, 0x07#8, (0xAA55#16).extractLsb' 0 8, (0xAA55#16).extractLsb' 8 8] ∧
      0x4007AA55#32 &&& 0xFF000000#32 = 0x40000000#32 ∧ (0x41000000#32).extractLsb' 28 4 = 0x4#4 ∧
      (0x41000000#32).extractLsb' 24 4 ≠ 0#4 := by decide +kernel
theorem witness_EncReadResult :
    0x50FF0000#32 &&& 0xFF00FFFF#32 = 0x50000000#32 ∧ (0x50000001#32).extractLsb' 28 4 = 0x5#4 ∧
      (0x50000001#32).extractLsb' 0 16 ≠ 0#16 ∧ (0x51000000#32).extractLsb' 28 4 = 0x5#4 ∧
      (0x51000000#32).extractLsb' 24 4 ≠ 0#4 := by decide
theorem witness_DecReadResult :
    State.reset.pend = false ∧ requested.pend = true ∧
      crc8 [requested.devAddr ++ 0#1, requested.pendCmd, requested.devAddr ++ 1#1, 0x74#8, 0x0E#8] = 0xB7#8 ∧
      0xB7#8 ≠ 0xB6#8 ∧ 0x68FFFFFF#32 &&& 0xF7000000#32 = 0x60000000#32 ∧
      (0x64000000#32).extractLsb' 28 4 = 0x6#4 ∧ (0x64000000#32).extractLsb' 24 3 ≠ 0#3 := by decide +kernel
theorem witness_ErrorPriority :
    (0x6FB70E74#32).extractLsb' 28 4 = 0x6#4 ∧ (0x6FB70E74#32).extractLsb' 24 3 ≠ 0#3 ∧
      (0x68B60E74#32).extractLsb' 28 4 = 0x6#4 ∧ (0x68B60E74#32).extractLsb' 24 3 = 0#3 ∧
      (0x68B60E74#32).getLsbD 27 = true ∧ (0x60B60E74#32).extractLsb' 24 3 = 0#3 ∧
      (0x60B60E74#32).getLsbD 27 = false ∧ State.reset.pend = false ∧ requested.pend = true := by decide
theorem witness_ErrorConditionsAreComplete :
    (nextOf (execWord 0x60B60E74#32 requested)).map (fun t => (t.ok, t.cause)) = some (false, .checksum) ∧
      (nextOf (execWord 0x70000000#32 requested)).map (fun t => (t.ill, requested.ill)) = some (true, false) := by decide +kernel
theorem witness_FrameChecksumCoversTheFrame :
    (nextOf (exec (.decRead false 0x74 0x0E 0xB7) requested)).map (·.ok) = some true := by decide +kernel
theorem witness_WrongChecksumByteIsDetected :
    0xB6#8 ≠ crc8 [State.reset.devAddr ++ 0#1, 0x09#8, State.reset.devAddr ++ 1#1, 0x74#8, 0x0E#8] := by decide +kernel
theorem witness_SingleBitDataErrorIsDetected :
    (0x75#8 = 0x74#8 ^^^ (1#8 <<< 0) ∧ 0x0E#8 = 0x0E#8) ∧ (0x74#8 = 0x74#8 ∧ 0x8E#8 = 0x0E#8 ^^^ (1#8 <<< 7)) := by
  decide +kernel
theorem witness_EveryRegisterHasOnlyItsWriters :
    (nextOf (execWord 0x60B70E74#32 requested)).map
        (fun t => (t.crc != requested.crc, t.ok, t.pend != requested.pend, t.value != requested.value)) =
      some (true, true, true, true) ∧
    (nextOf (execWord 0x50090000#32 State.reset)).map
        (fun t => (t.pend, t.pendCmd != 0x00, t.txLen != 0, t.ok != false)) = some (true, true, true, true) ∧
    (nextOf (execWord 0x30000040#32 requested)).map (fun t => (t.devAddr != requested.devAddr)) = some true ∧
    (nextOf (execWord 0x70000000#32 requested)).map (fun t => (t.ill != requested.ill)) = some true := by decide +kernel
theorem witness_ReadPortMap : 0xC#4 ≤ 0xC#4 ∧ 0xC#4 ≤ 0xF#4 := by decide
theorem witness_DevAddrChangesOnlyBySetAddr :
    (nextOf (execWord 0x3000007F#32 State.reset)).map (fun t => (t.devAddr, decide (t.devAddr ≠ State.reset.devAddr))) =
      some (0x7F, true) := by decide
theorem witness_OkAfterEachCommand :
    decode 0x00000000#32 = .ok .nop ∧ decode 0x10000000#32 = .ok .crcClear ∧ decode 0x20000000#32 = .ok (.crcByte 0) ∧
      decode 0x30000000#32 = .ok (.setAddr 0) ∧ decode 0x70000000#32 = .error (.reservedOpcode 7) := by decide
theorem witness_IllIsStickyAndUnread :
    (requested.present [.reset]).nextEvent = .reset ∧ (nextOf (step (requested.present [.reset]))).isSome = true ∧
      (requested.present [.ofWord 0x70000000]).nextEvent ≠ .reset ∧
      (nextOf (step (requested.present [.ofWord 0x70000000]))).isSome = true := by decide
theorem witness_PendingRequestLifetime :
    decode 0x00000000#32 = .ok .nop ∧ decode 0x10000000#32 = .ok .crcClear ∧ decode 0x200000FF#32 = .ok (.crcByte 0xFF) ∧
      decode 0xFFFFFFFF#32 = .error (.reservedOpcode 0xF) := by decide
theorem witness_ValueOnlyOnSuccess :
    (∀ e l h k, Instr.encRead 0x09 ≠ .decRead e l h k) ∧ nextOf (exec (.encRead 0x09) State.reset) = some requested ∧
      (nextOf (exec (.decRead false 0x74 0x0E 0xB7) requested)).map (·.ok) = some true ∧
      (nextOf (exec (.decRead false 0x74 0x0E 0xB6) requested)).map (·.ok) = some false :=
  ⟨(fun _ _ _ _ h => by cases h), by decide +kernel, by decide +kernel, by decide +kernel⟩
theorem witness_TransmitBufferOutlivesOtherCommands :
    (∀ c v, decode 0x30000040#32 ≠ .ok (.encWrite c v)) ∧ (∀ c, decode 0x30000040#32 ≠ .ok (.encRead c)) := by
  have h : decode 0x30000040#32 = .ok (.setAddr 0x40) := by decide
  exact ⟨(fun c v h' => by rw [h] at h'; cases h'), (fun c h' => by rw [h] at h'; cases h')⟩
theorem witness_EveryStepKeepsRegisterRelations :
    Inv requested ∧ nextOf (step (requested.present [.ofWord 0x00000000])) = some requested :=
  ⟨by constructor <;> decide, by decide⟩
theorem witness_EveryStepKeepsWriteFrameChecked :
    (mk 0x17 0x0B true false false .none 4 0 (0x07, 0x55, 0xAA, 0x17) 0x0000 0x00).txLen = 4#3 ∧
      WriteFrameChecked (mk 0x17 0x0B true false false .none 4 0 (0x07, 0x55, 0xAA, 0x17) 0x0000 0x00).toRegs ∧
      (nextOf (step (mk 0x17 0x0B true false false .none 4 0 (0x07, 0x55, 0xAA, 0x17) 0x0000 0x00))).isSome = true :=
  ⟨rfl, fun _ => ⟨0x0B, by decide +kernel⟩, by decide +kernel⟩
theorem witness_PendingRequestKeepsItsAddress :
    (nextOf (step (requested.present [.ofWord 0x30000040]))).map (fun t => decide (t.devAddr ≠ requested.devAddr)) =
      some true := by decide
theorem witness_RequestSurvivesHarmlessWords :
    (∀ w ∈ [0x10000000#32, 0x200000AA#32, 0x00000000#32, 0x70000000#32],
      decode w = .ok .nop ∨ decode w = .ok .crcClear ∨ (∃ d, decode w = .ok (.crcByte d)) ∨ ∃ e, decode w = .error e) ∧
      0xB7#8 = crc8 [State.reset.devAddr ++ 0#1, 0x09#8, State.reset.devAddr ++ 1#1, 0x74#8, 0x0E#8] := by
  refine ⟨?_, by decide +kernel⟩
  intro w hw
  simp only [List.mem_cons, List.not_mem_nil, or_false] at hw
  obtain rfl | rfl | rfl | rfl := hw
  · exact .inr (.inl rfl)
  · exact .inr (.inr (.inl ⟨0xAA, rfl⟩))
  · exact .inl rfl
  · exact .inr (.inr (.inr ⟨_, rfl⟩))
theorem witness_CancelledRequestIsASequenceError :
    (∃ c v, Instr.encWrite 0x15 0x0002 = .encWrite c v) ∧ ∃ a, Instr.setAddr 0x40 = .setAddr a := ⟨⟨_, _, rfl⟩, _, rfl⟩
theorem witness_NopResult :
    (0x00000001#32).extractLsb' 28 4 = 0x0#4 ∧ (0x00000001#32).extractLsb' 0 28 ≠ 0#28 := by decide

end Sys2Proof.Tests
end

section
/-! SUPPORT. Register by register, what a command, a word and a step do to it (spec/10_state.md R12, R15, R17, R18,
R20): the facts the statements about the registers' writers are assembled from. -/

namespace Sys2Proof.Machine

/-! ### Commands -/

/-- Every command completes (spec/60_exceptions.md R100). -/
theorem exec_completes (i : Instr) (s : State) : ∃ t, exec i s = .next t := by
  cases i with
  | decRead e l h k =>
    simp only [exec, execDecRead]
    split
    · exact ⟨_, rfl⟩
    · split <;> exact ⟨_, rfl⟩
  | _ => exact ⟨_, rfl⟩

/-- A command that changes DEV_ADDR is SET_ADDR of the new value. -/
theorem exec_eq_setAddr_of_devAddr_ne {i : Instr} {s t : State} (hx : exec i s = .next t)
    (hne : t.devAddr ≠ s.devAddr) : i = .setAddr t.devAddr := by
  cases i with
  | setAddr a => cases hx; rfl
  | decRead e l h k =>
    obtain ⟨_, rfl⟩ | ⟨_, _, rfl⟩ | ⟨_, _, _, rfl⟩ | ⟨_, _, _, rfl⟩ := execDecRead_cases hx <;> exact absurd rfl hne
  | _ => cases hx; exact absurd rfl hne

/-- No command writes ILL. -/
theorem exec_keeps_ill {i : Instr} {s t : State} (hx : exec i s = .next t) : t.ill = s.ill := by
  cases i with
  | decRead e l h k =>
    obtain ⟨_, rfl⟩ | ⟨_, _, rfl⟩ | ⟨_, _, _, rfl⟩ | ⟨_, _, _, rfl⟩ := execDecRead_cases hx <;> rfl
  | _ => cases hx; rfl

/-- Only DEC_READ writes VALUE. -/
theorem exec_keeps_value {i : Instr} {s t : State} (hx : exec i s = .next t)
    (hi : ∀ e l h k, i ≠ .decRead e l h k) : t.value = s.value := by
  cases i with
  | decRead e l h k => exact absurd rfl (hi e l h k)
  | _ => cases hx; rfl

/-! ### DEC_READ -/

section DecRead

variable {e : Bool} {l h k : Byte} {s t : State}

/-- DEC_READ with no request pending. -/
theorem execDecRead_of_noRequest (hp : s.pend = false) :
    execDecRead e l h k s = .next { s with ok := false, cause := .sequence } := if_pos hp

/-- DEC_READ of a transport failure. -/
theorem execDecRead_of_transportFailure (hp : s.pend = true) :
    execDecRead true l h k s = .next { s with ok := false, cause := .xfer, pend := false } := by
  rw [execDecRead, if_neg (by simp [hp]), if_pos rfl]
  rfl

/-- DEC_READ of a response whose checksum matches. -/
theorem execDecRead_of_match (hp : s.pend = true) (hk : crc8 (readBuffer s.devAddr s.pendCmd l h) = k) :
    execDecRead false l h k s =
      .next { s with crc := k, pend := false, value := joinBytes h l, ok := true, cause := .none } := by
  rw [execDecRead, if_neg (by simp [hp]), if_neg Bool.false_ne_true, checkResponse, if_pos hk, hk]
  rfl

/-- DEC_READ of a response whose checksum does not match. -/
theorem execDecRead_of_mismatch (hp : s.pend = true) (hk : crc8 (readBuffer s.devAddr s.pendCmd l h) ≠ k) :
    execDecRead false l h k s =
      .next { s with crc := crc8 (readBuffer s.devAddr s.pendCmd l h), pend := false, ok := false,
                     cause := .checksum } := by
  rw [execDecRead, if_neg (by simp [hp]), if_neg Bool.false_ne_true, checkResponse, if_neg hk]
  rfl

/-- DEC_READ ends with OK = 1 exactly on a matching checksum of a pending request without transport failure. -/
theorem execDecRead_ok_iff (hx : execDecRead e l h k s = .next t) :
    t.ok = true ↔ s.pend = true ∧ e = false ∧ crc8 (readBuffer s.devAddr s.pendCmd l h) = k := by
  obtain ⟨hp, rfl⟩ | ⟨hp, he, rfl⟩ | ⟨hp, he, hk, rfl⟩ | ⟨hp, he, hk, rfl⟩ := execDecRead_cases hx
  · simp [hp]
  · simp [he]
  · simp [hp, he, hk]
  · simp [hk]

/-- DEC_READ leaves no request pending, whichever path it takes, and keeps the command byte. -/
theorem execDecRead_pend (hx : execDecRead e l h k s = .next t) : t.pend = false ∧ t.pendCmd = s.pendCmd := by
  obtain ⟨hp, rfl⟩ | ⟨_, _, rfl⟩ | ⟨_, _, _, rfl⟩ | ⟨_, _, _, rfl⟩ := execDecRead_cases hx
  · exact ⟨hp, rfl⟩
  all_goals exact ⟨rfl, rfl⟩

/-- DEC_READ takes the received bytes as VALUE if it ends with OK = 1, and leaves VALUE if not. -/
theorem execDecRead_value (hx : execDecRead e l h k s = .next t) :
    (t.ok = true → t.value = h ++ l) ∧ (t.ok = false → t.value = s.value) := by
  obtain ⟨_, rfl⟩ | ⟨_, _, rfl⟩ | ⟨_, _, _, rfl⟩ | ⟨_, _, _, rfl⟩ := execDecRead_cases hx <;> simp [joinBytes]

end DecRead

/-! ### ILL is read by no command -/

/-- DEC_READ run from another value of ILL takes the same path. -/
theorem execDecRead_withIll {e : Bool} {l h k : Byte} {s t : State} (b : Bool)
    (hx : execDecRead e l h k s = .next t) :
    execDecRead e l h k { s with ill := b } = .next { t with ill := b } := by
  obtain ⟨hp, rfl⟩ | ⟨hp, rfl, rfl⟩ | ⟨hp, rfl, hk, rfl⟩ | ⟨hp, rfl, hk, rfl⟩ := execDecRead_cases hx
  · exact execDecRead_of_noRequest (s := { s with ill := b }) hp
  · exact execDecRead_of_transportFailure (s := { s with ill := b }) hp
  · exact execDecRead_of_match (s := { s with ill := b }) hp hk
  · exact execDecRead_of_mismatch (s := { s with ill := b }) hp hk

/-- A command run from another value of ILL ends in the same state but for that value. -/
theorem exec_withIll {i : Instr} {s t : State} (b : Bool) (hx : exec i s = .next t) :
    exec i { s with ill := b } = .next { t with ill := b } := by
  cases i with
  | decRead e l h k => exact execDecRead_withIll b hx
  | _ => cases hx; rfl

/-! ### Words -/

/-- Everything a word can do: its command's effect, or ILL if it is illegal (spec/30_encoding.md R51). -/
theorem execWord_cases {cw : Word} {s t : State} (hx : execWord cw s = .next t) :
    (∃ i, decode cw = .ok i ∧ exec i s = .next t) ∨ (∃ e, decode cw = .error e ∧ t = { s with ill := true }) := by
  cases hd : decode cw with
  | ok i => exact .inl ⟨i, rfl, by rw [← execWord_ok hd, hx]⟩
  | error e =>
    rw [execWord_error hd] at hx
    cases hx
    exact .inr ⟨e, rfl, rfl⟩

/-- NOP, the CRC commands and illegal words change at most CRC and ILL. -/
theorem execWord_of_harmless {cw : Word} (s : State)
    (hcw : decode cw = .ok .nop ∨ decode cw = .ok .crcClear ∨ (∃ d, decode cw = .ok (.crcByte d)) ∨
      ∃ e, decode cw = .error e) :
    ∃ (r : Byte) (b : Bool), execWord cw s = .next { s with crc := r, ill := b } := by
  obtain hd | hd | ⟨d, hd⟩ | ⟨e, hd⟩ := hcw
  · exact ⟨s.crc, s.ill, execWord_ok hd s⟩
  · exact ⟨0x00#8, s.ill, execWord_ok hd s⟩
  · exact ⟨crc8Step s.crc d, s.ill, execWord_ok hd s⟩
  · exact ⟨s.crc, true, execWord_error hd s⟩

/-- After a word ILL is 1 exactly if it was 1 or the word is illegal. -/
theorem execWord_ill_iff {cw : Word} {s t : State} (hx : execWord cw s = .next t) :
    t.ill = true ↔ s.ill = true ∨ ∃ e, decode cw = .error e := by
  obtain ⟨i, hd, hi⟩ | ⟨e, hd, rfl⟩ := execWord_cases hx
  · simp [hd, exec_keeps_ill hi]
  · simp [hd]

/-! ### Steps -/

/-- A reset step clears ILL. -/
theorem step_ill_of_reset {s t : State} (hs : step s = .next t) (hev : s.nextEvent = .reset) : t.ill = false := by
  obtain ⟨hi, _⟩ | ⟨_, hr⟩ | ⟨cw, hc, _⟩ := step_cases s
  · simp [hev] at hi
  · rw [hr] at hs; cases hs; rfl
  · simp [hev] at hc

/-- A step that is no reset leaves ILL at 1 exactly if it was 1 or the word presented is illegal. -/
theorem step_ill_iff {s t : State} (hs : step s = .next t) (hev : s.nextEvent ≠ .reset) :
    t.ill = true ↔ s.ill = true ∨ ∃ cw e, s.nextEvent = .command cw ∧ decode cw = .error e := by
  obtain ⟨hi, hn⟩ | ⟨hr, _⟩ | ⟨cw, hc, hn⟩ := step_cases s
  · rw [hn] at hs; cases hs; simp [hi]
  · exact absurd hr hev
  · rw [hn] at hs; simpa [hc] using execWord_ill_iff hs

end Sys2Proof.Machine
end

section
/-! The statements about the registers' writers (spec/10_state.md R12, R15, R17, R18, R20). -/

namespace Sys2Proof.Machine

/-- Settles O47: an illegal word writes ILL alone, and of the commands only SET_ADDR writes DEV_ADDR. -/
theorem devAddrChangesOnlyBySetAddr : Obligations.DevAddrChangesOnlyBySetAddr := by
  refine ⟨fun cw s t hx hne => ?_, fun a s => ⟨_, rfl, rfl⟩, rfl⟩
  obtain ⟨i, hd, hi⟩ | ⟨e, _, rfl⟩ := execWord_cases hx
  · rw [hd, exec_eq_setAddr_of_devAddr_ne hi hne]
  · exact absurd rfl hne

/-- Settles O48, by the four paths of DEC_READ and one case for each word that leaves OK. -/
theorem okAfterEachCommand : Obligations.OkAfterEachCommand := by
  refine ⟨fun c v s => ⟨_, rfl, rfl⟩, fun c s => ⟨_, rfl, rfl⟩, fun e l h k s => ?_, fun cw s hcw => ?_, rfl⟩
  · obtain ⟨t, ht⟩ := exec_completes (.decRead e l h k) s
    exact ⟨t, ht, execDecRead_ok_iff ht⟩
  · have hcases : (∃ a, decode cw = .ok (.setAddr a)) ∨ (decode cw = .ok .nop ∨ decode cw = .ok .crcClear ∨
        (∃ d, decode cw = .ok (.crcByte d)) ∨ ∃ e, decode cw = .error e) := by tauto
    obtain ⟨a, hd⟩ | hcw := hcases
    · exact ⟨_, execWord_ok hd s, rfl⟩
    · obtain ⟨r, b, hx⟩ := execWord_of_harmless s hcw
      exact ⟨_, hx, rfl⟩

/-- Settles O49, by what the host presents next and, for a word, by whether the decoder takes it. -/
theorem illIsStickyAndUnread : Obligations.IllIsStickyAndUnread := by
  refine ⟨fun s t => step_ill_of_reset, fun s t => step_ill_iff, fun i s b => ?_, rfl⟩
  obtain ⟨t, ht⟩ := exec_completes i s
  exact ⟨t, ht, exec_withIll b ht⟩

/-- Settles O50: the encoders and SET_ADDR by their effect, DEC_READ on each of its paths. -/
theorem pendingRequestLifetime : Obligations.PendingRequestLifetime := by
  refine ⟨fun c s => ⟨_, rfl, rfl, rfl⟩, fun e l h k s => ?_, fun c v s => ⟨_, rfl, rfl, rfl⟩,
    fun a s => ⟨_, rfl, rfl, rfl⟩, fun cw s hcw => ?_, rfl, rfl⟩
  · obtain ⟨t, ht⟩ := exec_completes (.decRead e l h k) s
    exact ⟨t, ht, execDecRead_pend ht⟩
  · obtain ⟨r, b, hx⟩ := execWord_of_harmless s hcw
    exact ⟨_, hx, rfl, rfl⟩

/-- Settles O51: a successful DEC_READ is the only writer of VALUE. -/
theorem valueOnlyOnSuccess : Obligations.ValueOnlyOnSuccess := by
  refine ⟨fun e l h k s => ?_, fun i s t => exec_keeps_value, rfl⟩
  obtain ⟨t, ht⟩ := exec_completes (.decRead e l h k) s
  exact ⟨t, ht, execDecRead_value ht⟩

end Sys2Proof.Machine
end

section
/-! SUPPORT. What the read port answers at its composed and its reserved indices, as numbers
(spec/20_memory.md R31, R33). -/

namespace Sys2Proof.Machine

/-- Concatenation as a number: the high part is shifted up by the low part's width. -/
theorem toNat_append_eq_add {m n : Nat} (x : BitVec m) (y : BitVec n) :
    (x ++ y).toNat = x.toNat * 2 ^ n + y.toNat := by
  rw [BitVec.toNat_append, ← Nat.shiftLeft_add_eq_or_of_lt y.isLt, Nat.shiftLeft_eq]

/-- Zero bits above a field leave its number. (Stated for all widths: at fixed ones `simp` computes the sum of
the widths first and no longer sees a concatenation.) -/
theorem toNat_zero_append {m n : Nat} (y : BitVec n) : (0#m ++ y).toNat = y.toNat := by
  rw [toNat_append_eq_add, BitVec.toNat_ofNat, Nat.zero_mod, Nat.zero_mul, Nat.zero_add]

@[simp] theorem lowByte_toNat (v : Value) : (lowByte v).toNat = v.toNat % 256 := rfl

@[simp] theorem highByte_toNat (v : Value) : (highByte v).toNat = v.toNat / 256 := by
  have hv : v.toNat / 256 < 256 := by omega
  rw [highByte, BitVec.extractLsb'_toNat, Nat.shiftRight_eq_div_pow, Nat.mod_eq_of_lt hv]

/-- STATUS as a number: OK is bit 0, PEND bit 1, ILL bit 2 and CAUSE bits 4:3 (spec/10_state.md R14). -/
theorem statusByte_toNat (r : Regs) :
    (statusByte r).toNat = r.ok.toNat + 2 * r.pend.toNat + 4 * r.ill.toNat + 8 * r.cause.code.toNat := by
  simp only [statusByte, toNat_append_eq_add, BitVec.toNat_ofBool, BitVec.toNat_ofNat]
  omega

/-- The reserved indices read 0x00. -/
theorem readPort_of_reserved (r : Regs) {idx : ReadIndex} (hidx : 0xC#4 ≤ idx) : readPort r idx = 0x00#8 := by
  have hcases : idx = 0xC#4 ∨ idx = 0xD#4 ∨ idx = 0xE#4 ∨ idx = 0xF#4 := by bv_omega
  obtain rfl | rfl | rfl | rfl := hcases <;> rfl

end Sys2Proof.Machine
end

section
/-! The statement about the read port's map (spec/20_memory.md R31). -/

namespace Sys2Proof.Machine

/-- Settles O44: a register as wide as the port is read as it is, a narrower one with 0 bits above it, and STATUS,
the halves of VALUE and the reserved indices by their own lemmas. -/
theorem readPortMap : Obligations.ReadPortMap := by
  intro r
  refine ⟨rfl, ?devAddr, ?status, ?txLen, ?rxLen, rfl, rfl, rfl, rfl, lowByte_toNat r.value, highByte_toNat r.value,
    rfl, fun idx => readPort_of_reserved r⟩
  case devAddr => exact toNat_zero_append r.devAddr
  case status => exact (statusByte_toNat r).trans (by cases r.cause <;> rfl)
  case txLen => exact toNat_zero_append r.txLen
  case rxLen => exact toNat_zero_append r.rxLen

end Sys2Proof.Machine
end

section
/-! SUPPORT. A field put into a word and read back, and the decoder row by row of the opcode map
(spec/30_encoding.md R45 to R51). -/

namespace Sys2Proof

/-! ### Fields of a word -/

/-- A field read where it was placed. -/
theorem extractLsb'_placeField_same {pos w : Nat} (hfit : pos + w ≤ 32) (x : BitVec w) :
    (placeField pos x).extractLsb' pos w = x := by
  ext i hi
  have hin : pos + i < 32 := by omega
  simp [placeField, hin, hi]

/-- A field that lies below the one read is not seen in it. -/
theorem extractLsb'_placeField_of_below {pos w pos' w' : Nat} (hbelow : pos' + w' ≤ pos) (x : BitVec w') :
    (placeField pos' x).extractLsb' pos w = 0#w := by
  ext i hi
  have hout : w' ≤ pos + i - pos' := by omega
  simp [placeField, hout]

/-- A field that lies above the one read is not seen in it. -/
theorem extractLsb'_placeField_of_above {pos w pos' w' : Nat} (habove : pos + w ≤ pos') (x : BitVec w') :
    (placeField pos' x).extractLsb' pos w = 0#w := by
  ext i hi
  have hout : pos + i < pos' := by omega
  simp [placeField, hout]

/-- Masking a word to a field leaves that field in its place. -/
theorem and_placeField_allOnes (cw : Word) (pos w : Nat) :
    cw &&& placeField pos (BitVec.allOnes w) = placeField pos (cw.extractLsb' pos w) := by
  ext i hi
  by_cases hlow : i < pos
  · simp [placeField, hlow]
  · have hpos : pos + (i - pos) = i := by omega
    simp [placeField, hlow, hpos, BitVec.getLsbD_eq_getElem hi, Bool.and_comm]

/-- A masked comparison of a word with a field's value compares the field. -/
theorem and_placeField_allOnes_eq_iff {cw : Word} {pos w : Nat} (hfit : pos + w ≤ 32) {x : BitVec w} :
    cw &&& placeField pos (BitVec.allOnes w) = placeField pos x ↔ cw.extractLsb' pos w = x := by
  rw [and_placeField_allOnes]
  refine ⟨fun h => ?_, fun h => by rw [h]⟩
  rw [← extractLsb'_placeField_same hfit (cw.extractLsb' pos w), h, extractLsb'_placeField_same hfit]

/-- A masked comparison splits where the mask does, for a value with no bit in the mask's second part. -/
theorem and_or_eq_iff {n : Nat} {x m₁ m₂ y : BitVec n} (h₁ : y &&& m₁ = y) (h₂ : y &&& m₂ = 0#n) :
    x &&& (m₁ ||| m₂) = y ↔ x &&& m₁ = y ∧ x &&& m₂ = 0#n := by
  constructor
  · rintro rfl
    have absorb₁ : (m₁ ||| m₂) &&& m₁ = m₁ := by ext; simp; tauto
    have absorb₂ : (m₁ ||| m₂) &&& m₂ = m₂ := by ext; simp; tauto
    rw [BitVec.and_assoc] at h₁ h₂
    exact ⟨by rw [← h₁, absorb₁], by rw [← h₂, absorb₂]⟩
  · rintro ⟨hm₁, hm₂⟩
    rw [BitVec.and_or_distrib_left, hm₁, hm₂, BitVec.or_zero]

/-! ### The reserved bits of each format (R46) -/

/-- No bit of a field is set exactly when the word masked to it is zero. -/
theorem and_eq_zero_iff_field {cw m : Word} {pos w : Nat} (hfit : pos + w ≤ 32)
    (hm : m = placeField pos (BitVec.allOnes w)) : cw &&& m = 0#32 ↔ cw.extractLsb' pos w = 0#w := by
  have hzero : placeField pos 0#w = 0#32 := by simp [placeField]
  rw [hm, ← hzero, and_placeField_allOnes_eq_iff hfit]

theorem reservedZ_iff (cw : Word) : cw &&& Format.Z.reservedMask = 0#32 ↔ cw.extractLsb' 0 28 = 0#28 :=
  and_eq_zero_iff_field (by decide) rfl

theorem reservedB_iff (cw : Word) : cw &&& Format.B.reservedMask = 0#32 ↔ cw.extractLsb' 8 20 = 0#20 :=
  and_eq_zero_iff_field (by decide) rfl

theorem reservedA_iff (cw : Word) : cw &&& Format.A.reservedMask = 0#32 ↔ cw.extractLsb' 7 21 = 0#21 :=
  and_eq_zero_iff_field (by decide) rfl

theorem reservedW_iff (cw : Word) : cw &&& Format.W.reservedMask = 0#32 ↔ cw.extractLsb' 24 4 = 0#4 :=
  and_eq_zero_iff_field (by decide) rfl

theorem reservedR_iff (cw : Word) : cw &&& Format.R.reservedMask = 0#32 ↔ cw.extractLsb' 24 3 = 0#3 :=
  and_eq_zero_iff_field (by decide) rfl

/-- Format Q has two reserved fields. -/
theorem reservedQ_iff (cw : Word) :
    cw &&& Format.Q.reservedMask = 0#32 ↔ cw.extractLsb' 24 4 = 0#4 ∧ cw.extractLsb' 0 16 = 0#16 := by
  have hmask : Format.Q.reservedMask = 0x0F000000#32 ||| 0x0000FFFF#32 := rfl
  have hhigh : cw &&& 0x0F000000#32 = 0#32 ↔ cw.extractLsb' 24 4 = 0#4 := and_eq_zero_iff_field (by decide) rfl
  have hlow : cw &&& 0x0000FFFF#32 = 0#32 ↔ cw.extractLsb' 0 16 = 0#16 := and_eq_zero_iff_field (by decide) rfl
  rw [hmask, and_or_eq_iff (by decide) (by decide), hhigh, hlow]

/-! ### The rows of the opcode map (R48) -/

/-- Every opcode is reserved or has a row. -/
theorem opcode_reserved_or_row : ∀ op : BitVec 4, 0x7#4 ≤ op ∨ ∃ r ∈ opcodeMap, r.op = op := by decide

/-- No row lies at a reserved opcode. -/
theorem row_op_not_reserved : ∀ r ∈ opcodeMap, ¬ 0x7#4 ≤ r.op := by decide

/-- An opcode has one row. -/
theorem row_eq_of_op_eq : ∀ r ∈ opcodeMap, ∀ r' ∈ opcodeMap, r'.op = r.op → r' = r := by decide

/-- A mnemonic has one row. -/
theorem row_eq_of_name_eq : ∀ r ∈ opcodeMap, ∀ r' ∈ opcodeMap, r'.name = r.name → r' = r := by decide

/-- A row's mask is the opcode field and the reserved bits of its format; its match value is the opcode alone. -/
theorem row_mask_and_pattern : ∀ r ∈ opcodeMap,
    r.mask = placeField 28 (BitVec.allOnes 4) ||| r.format.reservedMask ∧ r.pattern = placeField 28 r.op ∧
      r.pattern &&& placeField 28 (BitVec.allOnes 4) = r.pattern ∧ r.pattern &&& r.format.reservedMask = 0#32 := by
  decide

/-- A word matches a row exactly when it has the row's opcode and no reserved bit of its format. -/
theorem matchesWord_iff {r : OpcodeRow} (hr : r ∈ opcodeMap) (cw : Word) :
    r.matchesWord cw ↔ opcode cw = r.op ∧ cw &&& r.format.reservedMask = 0#32 := by
  obtain ⟨hmask, hpattern, hop, hreserved⟩ := row_mask_and_pattern r hr
  rw [OpcodeRow.matchesWord, hmask, and_or_eq_iff hop hreserved, hpattern,
    and_placeField_allOnes_eq_iff (by decide), opcode]

/-- At a row's opcode a word is illegal exactly when a reserved bit of the row's format is set. -/
theorem illegalWord_iff_of_row {r : OpcodeRow} {cw : Word} (hr : r ∈ opcodeMap) (hop : opcode cw = r.op) :
    illegalWord cw ↔ cw &&& r.format.reservedMask ≠ 0#32 := by
  rw [illegalWord, hop, or_iff_right (row_op_not_reserved r hr)]
  constructor
  · rintro ⟨r', hr', hop', hset⟩
    rwa [row_eq_of_op_eq r hr r' hr' hop'] at hset
  · exact fun hset => ⟨r, hr, rfl, hset⟩

/-! ### The decoder, row by row (R51) -/

/-- The command at an opcode of the map (0x6 is the last), its operands read from the word. -/
def commandAt (op : BitVec 4) (cw : Word) : Instr :=
  match op with
  | 0x0#4 => .nop
  | 0x1#4 => .crcClear
  | 0x2#4 => .crcByte (fieldLow cw)
  | 0x3#4 => .setAddr (fieldAddr cw)
  | 0x4#4 => .encWrite (fieldTop cw) (fieldValue cw)
  | 0x5#4 => .encRead (fieldTop cw)
  | _ => .decRead (fieldErr cw) (fieldLow cw) (fieldHigh cw) (fieldTop cw)

/-- The command at a row's opcode has the row's mnemonic. -/
theorem mnemonic_commandAt {r : OpcodeRow} (hr : r ∈ opcodeMap) (cw : Word) :
    mnemonic (commandAt r.op cw) = r.name := by
  fin_cases hr <;> rfl

/-- At a row's opcode the decoder gives the row's command, or refuses a reserved bit of its format. -/
theorem decode_of_row {r : OpcodeRow} {cw : Word} (hr : r ∈ opcodeMap) (hop : opcode cw = r.op) :
    decode cw = if cw &&& r.format.reservedMask = 0#32 then .ok (commandAt r.op cw)
      else .error (.reservedBits r.op) := by
  unfold decode
  rw [hop]
  fin_cases hr <;>
    simp only [reservedZ_iff, reservedB_iff, reservedA_iff, reservedW_iff, reservedQ_iff, reservedR_iff] <;> rfl

/-- The decoder refuses every word of a reserved opcode. -/
theorem decode_of_reservedOpcode {cw : Word} (hop : 0x7#4 ≤ opcode cw) :
    decode cw = .error (.reservedOpcode (opcode cw)) := by
  unfold decode
  split
  case h_8 => rfl
  all_goals rename_i hrow; rw [hrow] at hop; exact absurd hop (by decide)

/-- The decoder's commands are those of the rows a word matches. -/
theorem decode_eq_ok_iff {cw : Word} {i : Instr} :
    decode cw = .ok i ↔ ∃ r ∈ opcodeMap, r.matchesWord cw ∧ i = commandAt r.op cw := by
  constructor
  · intro hd
    obtain hop | ⟨r, hr, hop⟩ := opcode_reserved_or_row (opcode cw)
    · rw [decode_of_reservedOpcode hop] at hd
      cases hd
    · rw [decode_of_row hr hop.symm] at hd
      split at hd
      · next hclear =>
        cases hd
        exact ⟨r, hr, (matchesWord_iff hr cw).2 ⟨hop.symm, hclear⟩, rfl⟩
      · cases hd
  · rintro ⟨r, hr, hmatch, rfl⟩
    obtain ⟨hop, hclear⟩ := (matchesWord_iff hr cw).1 hmatch
    rw [decode_of_row hr hop, if_pos hclear]

/-- The decoder refuses exactly the illegal words. -/
theorem illegalWord_iff_decode_error (cw : Word) : illegalWord cw ↔ ∃ e, decode cw = .error e := by
  obtain hop | ⟨r, hr, hop⟩ := opcode_reserved_or_row (opcode cw)
  · exact iff_of_true (.inl hop) ⟨_, decode_of_reservedOpcode hop⟩
  · rw [illegalWord_iff_of_row hr hop.symm, decode_of_row hr hop.symm]
    split <;> simp [*]

/-! ### Operands (R47) -/

/-- The operands of a command are the fields of the word. -/
def OperandsReadFrom (cw : Word) : Instr → Prop
  | .nop => True
  | .crcClear => True
  | .crcByte d => d = fieldLow cw
  | .setAddr a => a = fieldAddr cw
  | .encWrite c v => c = fieldTop cw ∧ v = fieldValue cw
  | .encRead c => c = fieldTop cw
  | .decRead e l h k => e = fieldErr cw ∧ l = fieldLow cw ∧ h = fieldHigh cw ∧ k = fieldTop cw

/-- The command at an opcode has its operands from the word. -/
theorem commandAt_operands (op : BitVec 4) (cw : Word) : OperandsReadFrom cw (commandAt op cw) := by
  unfold commandAt
  split <;> simp [OperandsReadFrom]

/-- A decoded command has its operands from the word. -/
theorem decode_operands {cw : Word} {i : Instr} (hd : decode cw = .ok i) : OperandsReadFrom cw i := by
  obtain ⟨r, _, _, rfl⟩ := decode_eq_ok_iff.1 hd
  exact commandAt_operands r.op cw

theorem fieldLow_toNat (cw : Word) : (fieldLow cw).toNat = cw.toNat % 2 ^ 8 := rfl

theorem fieldAddr_toNat (cw : Word) : (fieldAddr cw).toNat = cw.toNat % 2 ^ 7 := rfl

theorem fieldValue_toNat (cw : Word) : (fieldValue cw).toNat = cw.toNat % 2 ^ 16 := rfl

theorem fieldHigh_toNat (cw : Word) : (fieldHigh cw).toNat = cw.toNat / 2 ^ 8 % 2 ^ 8 := by
  rw [fieldHigh, BitVec.extractLsb'_toNat, Nat.shiftRight_eq_div_pow]

theorem fieldTop_toNat (cw : Word) : (fieldTop cw).toNat = cw.toNat / 2 ^ 16 % 2 ^ 8 := by
  rw [fieldTop, BitVec.extractLsb'_toNat, Nat.shiftRight_eq_div_pow]

theorem fieldErr_iff (cw : Word) : fieldErr cw = true ↔ cw.toNat / 2 ^ 27 % 2 = 1 := by
  rw [fieldErr, BitVec.getLsbD, Nat.testBit_eq_decide_div_mod_eq, decide_eq_true_iff]

/-! ### Words of the commands that carry a command byte -/

/-- ENC_READ's encoding matches its row and holds the command byte where the decoder reads it. -/
theorem decode_encode_encRead (c : Byte) : decode (encode (.encRead c)) = .ok (.encRead c) := by
  have htop : fieldTop (encode (.encRead c)) = c := by
    rw [encode, fieldTop, BitVec.extractLsb'_or, extractLsb'_placeField_same (by decide)]
    exact BitVec.zero_or
  exact decode_eq_ok_iff.2 ⟨⟨0x5#4, "ENC_READ", .Q, 0x50000000#32, 0xFF00FFFF#32⟩, by decide,
    Laws.MatchesRow.encRead c, congrArg Instr.encRead htop.symm⟩

/-- ENC_WRITE's encoding matches its row and holds both operands where the decoder reads them. -/
theorem decode_encode_encWrite (c : Byte) (v : Value) : decode (encode (.encWrite c v)) = .ok (.encWrite c v) := by
  have htop : fieldTop (encode (.encWrite c v)) = c := by
    rw [encode, fieldTop, BitVec.extractLsb'_or, BitVec.extractLsb'_or, extractLsb'_placeField_same (by decide),
      extractLsb'_placeField_of_below (by decide), BitVec.or_zero]
    exact BitVec.zero_or
  have hvalue : fieldValue (encode (.encWrite c v)) = v := by
    rw [encode, fieldValue, BitVec.extractLsb'_or, BitVec.extractLsb'_or, extractLsb'_placeField_same (by decide),
      extractLsb'_placeField_of_above (by decide), BitVec.or_zero]
    exact BitVec.zero_or
  exact decode_eq_ok_iff.2 ⟨⟨0x4#4, "ENC_WRITE", .W, 0x40000000#32, 0xFF000000#32⟩, by decide,
    Laws.MatchesRow.encWrite c v, congrArg₂ Instr.encWrite htop.symm hvalue.symm⟩

end Sys2Proof
end

section
/-! The statements about the encoding (spec/30_encoding.md R47 to R49). -/

namespace Sys2Proof

/-- Settles O3: the decoder's commands are those of the rows a word matches, and a mnemonic has one row. -/
theorem opcodeMapDecidesTheCommand : Obligations.OpcodeMapDecidesTheCommand := by
  refine ⟨fun cw r hr => ⟨fun hmatch => ?_, ?_⟩, by decide, fun cw hop i hd => ?_⟩
  · exact ⟨_, decode_eq_ok_iff.2 ⟨r, hr, hmatch, rfl⟩, mnemonic_commandAt hr cw⟩
  · rintro ⟨i, hd, hname⟩
    obtain ⟨r', hr', hmatch, rfl⟩ := decode_eq_ok_iff.1 hd
    rw [mnemonic_commandAt hr'] at hname
    rwa [row_eq_of_name_eq r hr r' hr' hname] at hmatch
  · rw [decode_of_reservedOpcode hop] at hd
    cases hd

/-- Settles O4: the decoder refuses the illegal words, and a refused word's step is ILL alone. -/
theorem illegalWordsAreTheReservedOnes : Obligations.IllegalWordsAreTheReservedOnes := by
  refine ⟨illegalWord_iff_decode_error, fun cw s hcw => ?_⟩
  obtain ⟨e, hd⟩ := (illegalWord_iff_decode_error cw).1 hcw
  exact Machine.execWord_error hd s

/-- Settles O5: a decoded command's operands are fields of the word, each field's number is its own lemma, and
the encoder gives a word for every command byte. -/
theorem operandsAreTheirBitFields : Obligations.OperandsAreTheirBitFields := by
  refine ⟨fun cw d hd => ?crcByte, fun cw a hd => ?setAddr, fun cw c v hd => ?encWrite, fun cw c hd => ?encRead,
    fun cw e l h k hd => ?decRead, fun c => ⟨⟨_, decode_encode_encRead c⟩, fun v => ⟨_, decode_encode_encWrite c v⟩⟩⟩
  case crcByte =>
    obtain rfl : d = fieldLow cw := decode_operands hd
    exact fieldLow_toNat cw
  case setAddr =>
    obtain rfl : a = fieldAddr cw := decode_operands hd
    exact fieldAddr_toNat cw
  case encWrite =>
    obtain ⟨rfl, rfl⟩ := decode_operands hd
    exact ⟨fieldTop_toNat cw, fieldValue_toNat cw⟩
  case encRead =>
    obtain rfl : c = fieldTop cw := decode_operands hd
    exact fieldTop_toNat cw
  case decRead =>
    obtain ⟨rfl, rfl, rfl, rfl⟩ := decode_operands hd
    exact ⟨fieldErr_iff cw, fieldLow_toNat cw, fieldHigh_toNat cw, fieldTop_toNat cw⟩

end Sys2Proof
end

section
/-! SUPPORT. The generator as a loop on numbers and as a fold over a sequence, and what a reserved bit does at a
row's opcode (spec/40_crc.md R60 to R63). -/

namespace Sys2Proof.Machine

/-! ### The bit loop on numbers (R60) -/

/-- One iteration of R60 on a number: the test uses the value before the shift, the XOR comes after it. -/
def crcShiftNat (t : Nat) : Nat := if 128 ≤ t then (2 * t) % 256 ^^^ 7 else (2 * t) % 256

/-- An iteration of the generator is the iteration on numbers. -/
theorem crcShift_toNat (t : Byte) : (crcShift t).toNat = crcShiftNat t.toNat := by
  have hmsb : t.msb = true ↔ 128 ≤ t.toNat := by rw [BitVec.msb_eq_decide, decide_eq_true_iff]
  have hshift : (t <<< 1).toNat = (2 * t.toNat) % 256 := by
    rw [BitVec.toNat_shiftLeft, Nat.shiftLeft_eq, pow_one, mul_comm]
  by_cases ht : 128 ≤ t.toNat
  · rw [crcShift, if_pos (hmsb.2 ht), crcShiftNat, if_pos ht, BitVec.toNat_xor, hshift]
    rfl
  · rw [crcShift, if_neg (mt hmsb.1 ht), crcShiftNat, if_neg ht, hshift]

/-- The loop is the iterated loop body on numbers, for any number of iterations. -/
theorem crcShifts_toNat (n : Nat) (t : Byte) : (crcShifts n t).toNat = crcShiftNat^[n] t.toNat := by
  induction n generalizing t with
  | zero => rfl
  | succ n ih => rw [crcShifts_succ, ih, crcShift_toNat, Function.iterate_succ_apply]

/-! ### The step and the fold (R61, R63) -/

/-- A byte equal to the running value takes it to 0x00. -/
theorem crc8Step_self (d : Byte) : crc8Step d d = 0x00#8 := by
  rw [crc8Step_eq, BitVec.xor_self]
  rfl

/-- The step depends on its operands through their XOR alone. -/
theorem crc8Step_congr {r d r' d' : Byte} (h : r ^^^ d = r' ^^^ d') : crc8Step r d = crc8Step r' d' := by
  rw [crc8Step_eq, h, crc8Step_eq]

/-- A sequence is fed piece by piece. -/
theorem crc8From_append (r : Byte) (bs cs : List Byte) : crc8From r (bs ++ cs) = crc8From (crc8From r bs) cs :=
  List.foldl_append

/-! ### Illegal words of a row's opcode (R49) -/

/-- At a row's opcode, a word with a reserved bit of the row's format set does nothing but set ILL. -/
theorem execWord_of_reservedBits {r : OpcodeRow} {cw : Word} (hr : r ∈ opcodeMap) (hop : opcode cw = r.op)
    (hset : cw &&& r.format.reservedMask ≠ 0#32) (s : State) : execWord cw s = .next { s with ill := true } :=
  illegalWordsAreTheReservedOnes.2 cw s ((illegalWord_iff_of_row hr hop).2 hset)

end Sys2Proof.Machine
end

section
/-! The statements about the generator and its stream commands (spec/40_crc.md R60 to R63). -/

namespace Sys2Proof.Machine

/-- Settles O17: CRC_CLEAR has one word, and the others of its opcode set a reserved bit of format Z. -/
theorem crcClearResult : Obligations.CrcClearResult := by
  refine ⟨fun s => rfl, rfl, fun s hcrc => ?alreadyClear, fun cw s hop hset => ?illegal⟩
  case alreadyClear =>
    have hsame : s.setCrc 0x00#8 = s := by rw [← hcrc]; rfl
    exact congrArg Host.Outcome.next hsame
  case illegal =>
    exact execWord_of_reservedBits (r := ⟨0x1#4, "CRC_CLEAR", .Z, 0x10000000#32, 0xFFFFFFFF#32⟩) (by decide) hop
      (mt (reservedZ_iff cw).1 hset) s

/-- Settles O18: a word of CRC_BYTE's row decodes to it, the other words of its opcode set a reserved bit of
format B, and the corner cases are the step's own. -/
theorem crcByteResult : Obligations.CrcByteResult := by
  refine ⟨fun d s => rfl, fun cw hmatch => ?legal, fun cw s hop hset => ?illegal, crc8Step_self,
    fun r d r' d' => crc8Step_congr, crc8Step_self 0x00#8, by decide, by decide, by decide⟩
  case legal =>
    exact decode_eq_ok_iff.2 ⟨⟨0x2#4, "CRC_BYTE", .B, 0x20000000#32, 0xFFFFFF00#32⟩, by decide, hmatch, rfl⟩
  case illegal =>
    exact execWord_of_reservedBits (r := ⟨0x2#4, "CRC_BYTE", .B, 0x20000000#32, 0xFFFFFF00#32⟩) (by decide) hop
      (mt (reservedB_iff cw).1 hset) s

/-- Settles O19: eight iterations of the loop on numbers, from the XOR of the operands. -/
theorem crcStepIsTheBitLoop : Obligations.CrcStepIsTheBitLoop := by
  intro r d
  rw [crc8Step_eq, crcShifts_toNat, BitVec.toNat_xor]
  rfl

/-- Settles O20: the last byte of a sequence is the last one the fold steps over. -/
theorem crcOfSequenceIsTheFold : Obligations.CrcOfSequenceIsTheFold := by
  refine ⟨rfl, fun bs b => ?_⟩
  rw [crc8_eq_crc8From, crc8_eq_crc8From, crc8From_append, crc8From_cons, crc8From_nil]

end Sys2Proof.Machine
end

section
/-! SUPPORT. The decoder at a word that matches a row, and a zero byte at the start of a checksum buffer
(spec/30_encoding.md R48; spec/40_crc.md R65). -/

namespace Sys2Proof.Machine

/-- A word that matches a row decodes to the row's command. -/
theorem decode_of_matchesWord {r : OpcodeRow} {cw : Word} (hr : r ∈ opcodeMap) (hmatch : r.matchesWord cw) :
    decode cw = .ok (commandAt r.op cw) :=
  decode_eq_ok_iff.2 ⟨r, hr, hmatch, rfl⟩

/-- A leading zero byte does not count, since it keeps the generator at its initial value. -/
theorem crc8_zero_cons (bs : List Byte) : crc8 (0x00#8 :: bs) = crc8 bs := by
  rw [crc8_eq_crc8From, crc8_eq_crc8From, crc8From_cons, crc8Step_self]

end Sys2Proof.Machine
end

section
/-! The statements about SET_ADDR and the encoders (spec/41_frame.md R70 to R72). -/

namespace Sys2Proof.Machine

/-- Settles O28: a word of SET_ADDR's row decodes to it, and the others of its opcode set a reserved bit of
format A. -/
theorem setAddrResult : Obligations.SetAddrResult := by
  refine ⟨fun a s => rfl, fun cw hmatch => ?legal, fun cw s hop hset => ?illegal⟩
  case legal => exact decode_of_matchesWord (r := opcodeMap[3]) (List.getElem_mem _) hmatch
  case illegal =>
    exact execWord_of_reservedBits (r := opcodeMap[3]) (List.getElem_mem _) hop (mt (reservedA_iff cw).1 hset) s

/-- Settles O29: the checksum is that of the write buffer, a word of ENC_WRITE's row decodes to it, the others of
its opcode set a reserved bit of format W, and at DEV_ADDR = 0x00 the buffer begins with a zero byte. -/
theorem encWriteResult : Obligations.EncWriteResult := by
  refine ⟨fun c v s k hk => ?effect, fun cw hmatch => ?legal, fun cw s hop hset => ?illegal,
    fun c l h => crc8_zero_cons [c, l, h]⟩
  case effect =>
    have hbuffer : k = crc8 (writeBuffer s.devAddr c v) := hk
    rw [hbuffer]
    rfl
  case legal => exact decode_of_matchesWord (r := opcodeMap[4]) (List.getElem_mem _) hmatch
  case illegal =>
    exact execWord_of_reservedBits (r := opcodeMap[4]) (List.getElem_mem _) hop (mt (reservedW_iff cw).1 hset) s

/-- Settles O30: a word of ENC_READ's row decodes to it, and the others of its opcode set a bit in one of the two
reserved fields of format Q. -/
theorem encReadResult : Obligations.EncReadResult := by
  refine ⟨fun c s => rfl, fun cw hmatch => ?legal, fun cw s hop hset => ?illegal⟩
  case legal => exact decode_of_matchesWord (r := opcodeMap[5]) (List.getElem_mem _) hmatch
  case illegal =>
    exact execWord_of_reservedBits (r := opcodeMap[5]) (List.getElem_mem _) hop
      (mt (reservedQ_iff cw).1 (not_and_or.2 hset)) s

end Sys2Proof.Machine
end

section
/-! The statement about NOP (spec/42_control.md R90). -/

namespace Sys2Proof.Machine

/-- Settles O42: the zero word matches NOP's row, and the others of its opcode set a reserved bit of format Z. -/
theorem nopResult : Obligations.NopResult := by
  refine ⟨fun s => rfl, ?legal, fun cw s hop hset => ?illegal⟩
  case legal => exact decode_of_matchesWord (r := opcodeMap[0]) (cw := 0x00000000#32) (List.getElem_mem _) rfl
  case illegal =>
    exact execWord_of_reservedBits (r := opcodeMap[0]) (List.getElem_mem _) hop (mt (reservedZ_iff cw).1 hset) s

end Sys2Proof.Machine
end

section
/-! SUPPORT. The step in which a word is presented alone, and the step of a legal DEC_READ word
(spec/00_scope.md R6; spec/30_encoding.md R51). -/

namespace Sys2Proof.Machine

/-- A step in which a word is presented without reset is that word's, with the presentation taken away. -/
theorem step_of_word {s : State} {cw : Word} {rest : List PortInput} (hs : s.inputs = ⟨false, some cw⟩ :: rest) :
    step s = execWord cw { s with inputs := rest } := by
  have hev : s.nextEvent = .command cw := State.nextEvent_cons hs
  have hdrop : s.dropInput = { s with inputs := rest } := by rw [State.dropInput, hs, List.tail_cons]
  rw [step, hev, ← hdrop]

/-- A word of DEC_READ's opcode with no reserved bit of format R set runs DEC_READ on its fields. -/
theorem execWord_of_legalDecRead {cw : Word} {e : Bool} (hop : opcode cw = 0x6#4)
    (hclear : cw.extractLsb' 24 3 = 0#3) (he : fieldErr cw = e) (s : State) :
    execWord cw s = execDecRead e (fieldLow cw) (fieldHigh cw) (fieldTop cw) s := by
  have hmatch : opcodeMap[6].matchesWord cw :=
    (matchesWord_iff (List.getElem_mem _) cw).2 ⟨hop, (reservedR_iff cw).2 hclear⟩
  rw [execWord_ok (decode_of_matchesWord (List.getElem_mem _) hmatch), ← he]
  rfl

end Sys2Proof.Machine
end

section
/-! The statements about illegal words and the order of the error conditions (spec/60_exceptions.md R102, R103). -/

namespace Sys2Proof.Machine

/-- Settles O10: the step is the refused word's, and a step that is no reset keeps ILL = 1. -/
theorem illegalWordSetsOnlyIll : Obligations.IllegalWordSetsOnlyIll := by
  refine ⟨fun s cw e rest hs hd => ?_, fun s t hill hev hstep => (step_ill_iff hstep hev).2 (.inl hill)⟩
  rw [step_of_word hs, execWord_error hd]

/-- Settles O32: a reserved bit of format R makes the word illegal; a legal word runs DEC_READ on its fields, whose
path is fixed by PEND, then E, then the checksum. -/
theorem errorPriority : Obligations.ErrorPriority := by
  refine ⟨fun cw s hop hset => ?illegal, fun cw s hop hclear hp => ?sequence, fun cw s hop hclear hp he => ?xfer,
    fun cw s hop hclear hp he => ?checksum⟩
  case illegal =>
    exact execWord_of_reservedBits (r := opcodeMap[6]) (List.getElem_mem _) hop (mt (reservedR_iff cw).1 hset) s
  case sequence =>
    rw [execWord_of_legalDecRead hop hclear rfl, execDecRead_of_noRequest hp]
    exact ⟨_, rfl, rfl, rfl, rfl, rfl⟩
  case xfer =>
    rw [execWord_of_legalDecRead hop hclear he, execDecRead_of_transportFailure hp]
    exact ⟨_, rfl, rfl, rfl, rfl, rfl⟩
  case checksum =>
    rw [execWord_of_legalDecRead hop hclear he]
    by_cases hk : crc8 (readBuffer s.devAddr s.pendCmd (fieldLow cw) (fieldHigh cw)) = fieldTop cw
    · rw [execDecRead_of_match hp hk]
      exact ⟨_, rfl, rfl, iff_of_false (fun ⟨hok, _⟩ => Bool.noConfusion hok) (not_not_intro hk)⟩
    · rw [execDecRead_of_mismatch hp hk]
      exact ⟨_, rfl, rfl, iff_of_true ⟨rfl, rfl⟩ hk⟩

end Sys2Proof.Machine
end

section
/-! SUPPORT. The step in which reset is asserted, with or without a word (spec/70_reset_and_hazards.md R120). -/

namespace Sys2Proof.Machine

/-- A step in which reset is asserted leaves the reset registers and takes away what was presented, word and all. -/
theorem step_of_reset {s : State} {c : Option Word} {rest : List PortInput} (hs : s.inputs = ⟨true, c⟩ :: rest) :
    step s = .next { Regs.reset with inputs := rest } := by
  have hev : s.nextEvent = .reset := State.nextEvent_cons hs
  have hreset : s.dropInput.resetRegs = { Regs.reset with inputs := rest } := by
    rw [State.resetRegs, State.dropInput, hs, List.tail_cons]
  rw [step, hev, ← hreset]

end Sys2Proof.Machine
end

section
/-! The statement about reset (spec/70_reset_and_hazards.md R120). -/

namespace Sys2Proof.Machine

/-- Settles O11: a reset step leaves `Regs.reset`, as `State.reset` does, and its fields are the values listed. -/
theorem resetSetsEveryRegisterAndWins : Obligations.ResetSetsEveryRegisterAndWins :=
  ⟨fun _ _ _ hs => step_of_reset hs, State.reset_toRegs⟩

end Sys2Proof.Machine
end

section
/-! SUPPORT. The round trip between commands and words: each operand of an encoded command where the decoder reads it,
and a legal word as its row's match value beside its operand bits (spec/30_encoding.md R46 to R51). -/

namespace Sys2Proof

open Machine (decode_of_matchesWord)

/-! ### From a command to its word and back -/

theorem decode_encode_crcByte (d : Byte) : decode (encode (.crcByte d)) = .ok (.crcByte d) := by
  have hlow : fieldLow (encode (.crcByte d)) = d := by
    rw [encode, fieldLow, BitVec.extractLsb'_or, extractLsb'_placeField_same (by decide)]
    exact BitVec.zero_or
  rw [decode_of_matchesWord (r := opcodeMap[2]) (List.getElem_mem _) (Laws.MatchesRow.crcByte d)]
  exact congrArg (Except.ok <| Instr.crcByte ·) hlow

theorem decode_encode_setAddr (a : Addr) : decode (encode (.setAddr a)) = .ok (.setAddr a) := by
  have haddr : fieldAddr (encode (.setAddr a)) = a := by
    rw [encode, fieldAddr, BitVec.extractLsb'_or, extractLsb'_placeField_same (by decide)]
    exact BitVec.zero_or
  rw [decode_of_matchesWord (r := opcodeMap[3]) (List.getElem_mem _) (Laws.MatchesRow.setAddr a)]
  exact congrArg (Except.ok <| Instr.setAddr ·) haddr

/-- An 8-bit field of DEC_READ's word is seen in the three byte operands alone: the opcode and E lie above it. -/
theorem extractLsb'_encode_decRead {pos : Nat} (hpos : pos + 8 ≤ 27) (hop : (0x60000000#32).extractLsb' pos 8 = 0#8)
    (e : Bool) (l h k : Byte) :
    (encode (.decRead e l h k)).extractLsb' pos 8 =
      (placeField 16 k).extractLsb' pos 8 ||| (placeField 8 h).extractLsb' pos 8 |||
        (placeField 0 l).extractLsb' pos 8 := by
  simp only [encode, BitVec.extractLsb'_or, hop, extractLsb'_placeField_of_above hpos, BitVec.zero_or]

theorem decode_encode_decRead (e : Bool) (l h k : Byte) :
    decode (encode (.decRead e l h k)) = .ok (.decRead e l h k) := by
  have herr : fieldErr (encode (.decRead e l h k)) = e := by simp [encode, fieldErr, placeField]
  have hlow : fieldLow (encode (.decRead e l h k)) = l := by
    rw [fieldLow, extractLsb'_encode_decRead (by decide) (by decide), extractLsb'_placeField_of_above (by decide),
      extractLsb'_placeField_of_above (by decide), extractLsb'_placeField_same (by decide), BitVec.zero_or,
      BitVec.zero_or]
  have hhigh : fieldHigh (encode (.decRead e l h k)) = h := by
    rw [fieldHigh, extractLsb'_encode_decRead (by decide) (by decide), extractLsb'_placeField_of_above (by decide),
      extractLsb'_placeField_same (by decide), extractLsb'_placeField_of_below (by decide), BitVec.zero_or,
      BitVec.or_zero]
  have htop : fieldTop (encode (.decRead e l h k)) = k := by
    rw [fieldTop, extractLsb'_encode_decRead (by decide) (by decide), extractLsb'_placeField_same (by decide),
      extractLsb'_placeField_of_below (by decide), extractLsb'_placeField_of_below (by decide), BitVec.or_zero,
      BitVec.or_zero]
  rw [decode_of_matchesWord (r := opcodeMap[6]) (List.getElem_mem _) (Laws.MatchesRow.decRead e l h k)]
  exact congrArg Except.ok (congr (congr (congrArg₂ Instr.decRead herr hlow) hhigh) htop)

/-! ### From a legal word to its command and back -/

/-- A bit as a field of one bit. -/
theorem ofBool_getLsbD (cw : Word) (pos : Nat) : BitVec.ofBool (cw.getLsbD pos) = cw.extractLsb' pos 1 := by
  ext i hi
  obtain rfl : i = 0 := by omega
  simp

/-- Encoding what is read from a word at a row's opcode gives the row's match value and the word's operand bits, those
outside the row's mask. -/
theorem encode_commandAt {r : OpcodeRow} (hr : r ∈ opcodeMap) (cw : Word) :
    encode (commandAt r.op cw) = r.pattern ||| cw &&& ~~~r.mask := by
  have hnone (p : Word) : p = p ||| cw &&& 0#32 := by rw [BitVec.and_zero, BitVec.or_zero]
  fin_cases hr
  · exact hnone (encode .nop)
  · exact hnone (encode .crcClear)
  · exact congrArg (0x20000000#32 ||| ·) (and_placeField_allOnes cw 0 8).symm
  · exact congrArg (0x30000000#32 ||| ·) (and_placeField_allOnes cw 0 7).symm
  · change encode (.encWrite (cw.extractLsb' 16 8) (cw.extractLsb' 0 16)) = _
    simp only [encode, ← and_placeField_allOnes, BitVec.or_assoc, ← BitVec.and_or_distrib_left]
    rfl
  · exact congrArg (0x50000000#32 ||| ·) (and_placeField_allOnes cw 16 8).symm
  · change encode (.decRead (cw.getLsbD 27) (cw.extractLsb' 0 8) (cw.extractLsb' 8 8) (cw.extractLsb' 16 8)) = _
    simp only [encode, ofBool_getLsbD, ← and_placeField_allOnes, BitVec.or_assoc, ← BitVec.and_or_distrib_left]
    rfl

/-! ### The words of assembler lines, as numbers (R52) -/

/-- A fitting operand put below the bits already set is added at its position. -/
theorem ofNat_or_placeField {hi pos w x : Nat} (hbelow : 2 ^ (pos + w) ∣ hi) (hx : x < 2 ^ w) (hw : w ≤ 32) :
    BitVec.ofNat 32 hi ||| placeField pos (BitVec.ofNat w x) = BitVec.ofNat 32 (hi + x * 2 ^ pos) := by
  have hplace : placeField pos (BitVec.ofNat w x) = BitVec.ofNat 32 (x * 2 ^ pos) := by
    rw [placeField, BitVec.setWidth_ofNat_of_le_of_lt hw hx]
    apply BitVec.eq_of_toNat_eq
    rw [BitVec.toNat_shiftLeft, BitVec.toNat_ofNat, BitVec.toNat_ofNat, Nat.shiftLeft_eq, Nat.mod_mul_mod]
  have hadd : hi ||| x * 2 ^ pos = hi + x * 2 ^ pos := by
    obtain ⟨y, rfl⟩ := hbelow
    have hlt : x * 2 ^ pos < 2 ^ (pos + w) := by
      rw [pow_add, mul_comm]
      exact Nat.mul_lt_mul_of_pos_left hx (Nat.two_pow_pos pos)
    exact (Nat.two_pow_add_eq_or_of_lt hlt y).symm
  rw [hplace, ← hadd, BitVec.ofNat_or]

/-- The word of DEC_READ with fitting operands, above the word `base` of its opcode and E. -/
theorem decReadWord_eq {e : Bool} {base l h k : Nat} (hbase : 2 ^ 24 ∣ base)
    (he : 0x60000000#32 ||| placeField 27 (BitVec.ofBool e) = BitVec.ofNat 32 base) (hl : l < 0x100) (hh : h < 0x100)
    (hk : k < 0x100) :
    decReadWord e l h k = BitVec.ofNat 32 (base + k * 2 ^ 16 + h * 2 ^ 8 + l) := by
  rw [decReadWord, encode, he, ofNat_or_placeField hbase hk (by decide),
    ofNat_or_placeField (by omega) hh (by decide), ofNat_or_placeField (by omega) hl (by decide), pow_zero, mul_one]

/-- The three byte operands of a response line fit exactly when each does. -/
theorem fitsBytes_iff (l h k : Nat) :
    (fitsByte l && fitsByte h && fitsByte k) = true ↔ l < 0x100 ∧ h < 0x100 ∧ k < 0x100 := by
  simp [fitsByte, and_assoc]

/-- A line is assembled where its operands fit and refused where not. -/
theorem assembleLine_eq_ite {l : AsmLine} {fits : Prop} [Decidable fits] {w : Word} (hwf : l.wellFormed = true ↔ fits)
    (hw : fits → l.words = [w]) : assembleLine l = if fits then some [w] else none := by
  by_cases hfits : fits
  · rw [assembleLine, if_pos (hwf.2 hfits), if_pos hfits, hw hfits]
  · rw [assembleLine, if_neg (mt hwf.1 hfits), if_neg hfits]

/-- The number of a byte fits an 8-bit operand. -/
theorem all_fitsByte_toNat (bs : List Byte) : (bs.map BitVec.toNat).all fitsByte = true := by
  simpa [fitsByte] using fun b _ => b.isLt

/-- CRC_BYTE's word of the number of a byte is that of the byte. -/
theorem map_crcByteWord_toNat (bs : List Byte) :
    (bs.map BitVec.toNat).map crcByteWord = bs.map fun b => encode (.crcByte b) := by
  simp [crcByteWord, Function.comp_def]

end Sys2Proof
end

section
/-! The statements about the round trip and the assembler (spec/30_encoding.md R46 to R53). -/

namespace Sys2Proof

/-- Settles O1, command by command. -/
theorem decodeOfEncodeGivesTheCommand : Obligations.DecodeOfEncodeGivesTheCommand := by
  intro i
  cases i with
  | nop => rfl
  | crcClear => rfl
  | crcByte d => exact decode_encode_crcByte d
  | setAddr a => exact decode_encode_setAddr a
  | encWrite c v => exact decode_encode_encWrite c v
  | encRead c => exact decode_encode_encRead c
  | decRead e l h k => exact decode_encode_decRead e l h k

/-- Settles O2: the word is its bits under the row's mask, which are the match value, and those outside it, which are
the operands. -/
theorem encodeOfDecodeGivesTheWord : Obligations.EncodeOfDecodeGivesTheWord := by
  intro cw i hd
  obtain ⟨r, hr, hmatch, rfl⟩ := decode_eq_ok_iff.1 hd
  rw [encode_commandAt hr, ← hmatch, ← BitVec.and_or_distrib_left, BitVec.or_not_self, BitVec.and_allOnes]

/-- Settles O7: each line's operands fit by its well-formedness, and its word is the sum of its fields. -/
theorem assemblerRefusesWhatDoesNotFit : Obligations.AssemblerRefusesWhatDoesNotFit := by
  refine ⟨rfl, rfl, fun d => ?crcByte, fun a => ?setAddr, fun c v => ?encWrite, fun c => ?encRead,
    fun l h k => ?decRead, fun l h k => ?decReadX⟩
  case crcByte =>
    refine assembleLine_eq_ite decide_eq_true_iff fun hd => congrArg ([·]) ?_
    rw [crcByteWord, encode, ofNat_or_placeField (by decide) hd (by decide), pow_zero, mul_one]
  case setAddr =>
    refine assembleLine_eq_ite decide_eq_true_iff fun ha => congrArg ([·]) ?_
    rw [encode, ofNat_or_placeField (by decide) ha (by decide), pow_zero, mul_one]
  case encWrite =>
    refine assembleLine_eq_ite (by simp [AsmLine.wellFormed, fitsByte, fitsValue]) fun ⟨hc, hv⟩ => congrArg ([·]) ?_
    rw [encode, ofNat_or_placeField (by decide) hc (by decide), ofNat_or_placeField (by omega) hv (by decide),
      pow_zero, mul_one]
  case encRead =>
    refine assembleLine_eq_ite decide_eq_true_iff fun hc => congrArg ([·]) ?_
    rw [encode, ofNat_or_placeField (by decide) hc (by decide)]
  case decRead =>
    exact assembleLine_eq_ite (fitsBytes_iff l h k) fun ⟨hl, hh, hk⟩ =>
      congrArg ([·]) (decReadWord_eq (by decide) rfl hl hh hk)
  case decReadX =>
    exact assembleLine_eq_ite (fitsBytes_iff l h k) fun ⟨hl, hh, hk⟩ =>
      congrArg ([·]) (decReadWord_eq (by decide) rfl hl hh hk)

/-- Settles O6: the decoder's answers at eight fixed words, computed. -/
theorem writtenOutWordsDecode : Obligations.WrittenOutWordsDecode := by
  unfold Obligations.WrittenOutWordsDecode
  decide

/-- Settles O8: the numbers of bytes fit and give the bytes back. -/
theorem pseudoInstructionsExpand : Obligations.PseudoInstructionsExpand := by
  refine ⟨fun bs => ?crcOf, fun bs => ?crcBytes, rfl, fun w => ?word⟩
  case crcOf =>
    have hwf : (AsmLine.crcOf (bs.map BitVec.toNat)).wellFormed = true := all_fitsByte_toNat bs
    rw [assembleLine, if_pos hwf, AsmLine.words, map_crcByteWord_toNat]
  case crcBytes =>
    by_cases hbs : bs = []
    · rw [if_pos hbs, hbs]
      rfl
    · have hwf : (AsmLine.crcBytes (bs.map BitVec.toNat)).wellFormed = true := by
        rw [AsmLine.wellFormed, all_fitsByte_toNat, Bool.and_true]
        simpa using hbs
      rw [if_neg hbs, assembleLine, if_pos hwf, AsmLine.words, map_crcByteWord_toNat]
  case word =>
    have hw : (AsmLine.word w.toNat).wellFormed = true := decide_eq_true w.isLt
    rw [assembleLine, if_pos hw, AsmLine.words, BitVec.ofNat_toNat, BitVec.setWidth_eq]

end Sys2Proof
end

section
/-! SUPPORT. What one presentation does to the block, apart from the host's list it is taken from, and runs one
presentation at a time (spec/00_scope.md R6; spec/10_state.md R22; spec/20_memory.md R38). -/

namespace Sys2Proof.Machine

/-- Every word completes and leaves what the host is going to present (spec/60_exceptions.md R100). -/
theorem execWord_completes (cw : Word) (s : State) : ∃ t, execWord cw s = .next t ∧ t.inputs = s.inputs := by
  obtain ⟨t, ht⟩ : ∃ t, execWord cw s = .next t := by
    cases hd : decode cw with
    | ok i => rw [execWord_ok hd]; exact exec_completes i s
    | error e => exact ⟨_, execWord_error hd s⟩
  exact ⟨t, ht, execWord_keeps_inputs ht⟩

/-- What an event does to the registers. -/
def Event.effect : Event → State → Host.Outcome State Fault Refusal
  | .idle, s => .next s
  | .reset, s => .next s.resetRegs
  | .command cw, s => execWord cw s

/-- A step takes away what is presented and has its effect. -/
theorem step_eq_effect (s : State) : step s = s.nextEvent.effect s.dropInput := by
  rw [step]
  cases s.nextEvent <;> rfl

theorem Event.effect_completes (ev : Event) (s : State) : ∃ t, ev.effect s = .next t ∧ t.inputs = s.inputs := by
  cases ev with
  | idle => exact ⟨s, rfl, rfl⟩
  | reset => exact ⟨s.resetRegs, rfl, rfl⟩
  | command cw => exact execWord_completes cw s

/-- An event's effect does not depend on what the host presents later. -/
theorem Event.effect_withInputs {ev : Event} {s t : State} (ps : List PortInput) (h : ev.effect s = .next t) :
    ev.effect { s with inputs := ps } = .next { t with inputs := ps } := by
  cases ev with
  | idle => cases h; rfl
  | reset => cases h; rfl
  | command cw => exact execWord_withInputs ps h

/-- Machines with equal registers differ in what their hosts present alone. -/
theorem eq_withInputs_of_toRegs_eq {s u : State} (h : s.toRegs = u.toRegs) : u = { s with inputs := u.inputs } := by
  cases s
  cases u
  cases h
  rfl

@[simp] theorem runInputs_nil (s : State) : runInputs [] s = .next s := rfl

/-- A run over a presentation and then others is the run over the others from the state the first leaves. -/
theorem runInputs_cons {p : PortInput} {s u : State} (ps : List PortInput) (h : p.event.effect s = .next u)
    (hu : u.inputs = s.inputs) : runInputs (p :: ps) s = runInputs ps u := by
  have hstep : step (s.present (p :: ps)) = .next (u.present ps) := by
    have heffect : step (s.present (p :: ps)) = p.event.effect { s with inputs := ps ++ s.inputs } := step_eq_effect _
    rw [heffect, Event.effect_withInputs _ h, State.present, hu]
  rw [runInputs, List.length_cons, runSteps, hstep]
  rfl

end Sys2Proof.Machine
end

section
/-! The statements about steps, their order and what they depend on (spec/10_state.md R22; spec/20_memory.md R37, R38;
spec/60_exceptions.md R100; spec/70_reset_and_hazards.md R121, R122). -/

namespace Sys2Proof.Machine

/-- Settles O9: the step is the presented word's, and that word is legal. -/
theorem stepRunsThePresentedCommand : Obligations.StepRunsThePresentedCommand := by
  intro s cw i rest hs hd
  rw [step_of_word hs, execWord_ok hd]

/-- Settles O12: the sixteen reads of the reset registers, computed. -/
theorem readPortAfterReset : Obligations.ReadPortAfterReset := by
  unfold Obligations.ReadPortAfterReset
  decide

/-- Settles O13: the event is idle in both cases, and taking an entry from an empty list leaves it empty. -/
theorem nothingPresentedChangesNothing : Obligations.NothingPresentedChangesNothing := by
  refine ⟨fun s hs => ?empty, fun s rest hs => ?idleEntry⟩
  case empty =>
    have hdrop : s.dropInput = s := by rw [State.dropInput, hs, List.tail_nil, ← hs]
    rw [step_eq_effect, State.nextEvent_nil hs, hdrop]
    rfl
  case idleEntry =>
    rw [step_eq_effect, State.nextEvent_cons hs, State.dropInput, hs]
    rfl

/-- Settles O14: a step is the effect of an event, and every effect completes. -/
theorem everyStepCompletes : Obligations.EveryStepCompletes := by
  refine ⟨execWord_completes, fun s => ?_⟩
  rw [step_eq_effect]
  exact Event.effect_completes s.nextEvent s.dropInput

/-- Settles O15, by induction on the first list. -/
theorem runsComposeInOrder : Obligations.RunsComposeInOrder := by
  intro ps qs s
  induction ps generalizing s with
  | nil => exact ⟨s, rfl, rfl, rfl⟩
  | cons p ps ih =>
    obtain ⟨u, hu, hinputs⟩ := Event.effect_completes p.event s
    obtain ⟨t, ht, htinputs, happ⟩ := ih u
    refine ⟨t, ?_, htinputs.trans hinputs, ?_⟩
    · rw [runInputs_cons ps hu hinputs, ht]
    · rw [List.cons_append, runInputs_cons (ps ++ qs) hu hinputs, happ]

/-- Settles O16: the two machines differ in what their hosts present later alone, and no event's effect sees that. -/
theorem stepDependsOnRegistersAndPresentedInput : Obligations.StepDependsOnRegistersAndPresentedInput := by
  intro s u t hregs hev hs
  have hu : u.dropInput = { s.dropInput with inputs := u.inputs.tail } := eq_withInputs_of_toRegs_eq hregs
  rw [step_eq_effect] at hs
  refine ⟨{ t with inputs := u.inputs.tail }, ?_, rfl⟩
  rw [step_eq_effect, ← hev, hu, Event.effect_withInputs _ hs]

end Sys2Proof.Machine
end

section
/-! SUPPORT. The generator loses nothing: its iteration sends only 0x00 to 0x00, so, being linear, the step is
injective in either operand and the fold in its running value (spec/40_crc.md R60, R61, R65). -/

namespace Sys2Proof.Machine

/-- An iteration sends only 0x00 to 0x00: the low bit after it is the high bit before it, and where that is 0 the
iteration is a plain shift. -/
theorem crcShift_eq_zero_iff (t : Byte) : crcShift t = 0x00#8 ↔ t = 0x00#8 := by
  refine ⟨fun h => ?_, fun h => by rw [h]; rfl⟩
  have hmsb : t.msb = false := by
    by_contra hset
    rw [crcShift, if_pos (by simpa using hset)] at h
    have hlow : ((t <<< 1) ^^^ Config.crcPoly).getLsbD 0 = true := by simp [Config.crcPoly]
    rw [h] at hlow
    exact Bool.noConfusion hlow
  rw [crcShift, hmsb, if_neg Bool.false_ne_true] at h
  have hlt : t.toNat < 128 := by simpa [BitVec.msb_eq_decide] using hmsb
  bv_omega

theorem crcShifts_eq_zero_iff (n : Nat) (t : Byte) : crcShifts n t = 0x00#8 ↔ t = 0x00#8 := by
  induction n generalizing t with
  | zero => rfl
  | succ n ih => rw [crcShifts_succ, ih, crcShift_eq_zero_iff]

theorem crcShifts_injective (n : Nat) : Function.Injective (crcShifts n) := by
  intro a b hab
  have hzero : crcShifts n (a ^^^ b) = 0x00#8 := by rw [crcShifts_xor, hab, BitVec.xor_self]
  exact BitVec.xor_eq_zero_iff.1 ((crcShifts_eq_zero_iff n _).1 hzero)

/-- A step ends at 0x00 exactly when the byte is the running value. -/
theorem crc8Step_eq_zero_iff (r d : Byte) : crc8Step r d = 0x00#8 ↔ d = r := by
  rw [crc8Step_eq, crcShifts_eq_zero_iff, BitVec.xor_eq_zero_iff, eq_comm]

/-- The step tells running values apart. -/
theorem crc8Step_left_injective (d : Byte) : Function.Injective (crc8Step · d) := fun _ _ h =>
  (BitVec.xor_left_inj d).1 (crcShifts_injective 8 h)

/-- The step tells input bytes apart. -/
theorem crc8Step_right_injective (r : Byte) : Function.Injective (crc8Step r) := fun _ _ h =>
  (BitVec.xor_right_inj r).1 (crcShifts_injective 8 h)

/-- A sequence tells the running values it starts from apart. -/
theorem crc8From_injective (bs : List Byte) : Function.Injective (crc8From · bs) := by
  induction bs with
  | nil => exact fun _ _ h => h
  | cons b bs ih => exact fun _ _ h => crc8Step_left_injective b (ih h)

/-- The step of a XOR is the XOR of the steps. -/
theorem crc8Step_xor (r r' d d' : Byte) : crc8Step (r ^^^ r') (d ^^^ d') = crc8Step r d ^^^ crc8Step r' d' := by
  rw [crc8Step_eq, crc8Step_eq, crc8Step_eq, ← crcShifts_xor]
  congr 1
  ac_rfl

/-- The fold is linear over sequences of equal length. -/
theorem crc8From_zipWith_xor {bs cs : List Byte} (hlen : bs.length = cs.length) (r r' : Byte) :
    crc8From (r ^^^ r') (List.zipWith (· ^^^ ·) bs cs) = crc8From r bs ^^^ crc8From r' cs := by
  induction bs generalizing cs r r' with
  | nil =>
    obtain rfl : cs = [] := List.length_eq_zero_iff.1 hlen.symm
    rfl
  | cons b bs ih =>
    obtain ⟨c, cs, rfl⟩ := List.exists_cons_of_length_eq_add_one hlen.symm
    rw [List.zipWith_cons_cons, crc8From_cons, crc8Step_xor, ih (Nat.succ.inj hlen), crc8From_cons, crc8From_cons]

/-- The checksum of a sequence goes on from that of its first part. -/
theorem crc8_append (bs cs : List Byte) : crc8 (bs ++ cs) = crc8From (crc8 bs) cs := by
  rw [crc8_eq_crc8From, crc8From_append, ← crc8_eq_crc8From]

/-- Sequences that differ in one byte have different checksums. -/
theorem crc8_ne_of_byte_ne (pre post : List Byte) {b b' : Byte} (h : b ≠ b') :
    crc8 (pre ++ b :: post) ≠ crc8 (pre ++ b' :: post) := by
  rw [crc8_append, crc8_append]
  exact fun heq => h (crc8Step_right_injective (crc8 pre) (crc8From_injective post heq))

/-- A flipped bit makes another byte. -/
theorem xor_bit_ne (b : Byte) {j : Nat} (hj : j < 8) : b ^^^ (1#8 <<< j) ≠ b := by
  have hbit : ∀ j < 8, 1#8 <<< j ≠ 0#8 := by decide
  exact fun h => hbit j hj (by simpa using h)

/-- The printed table holds the eight iterations of every byte (spec/40_crc.md R64). -/
theorem crcShifts_eq_crcTableEntry : ∀ t : Byte, crcShifts 8 t = crcTableEntry t := by decide +kernel

end Sys2Proof.Machine
end

section
/-! The statements about the generator's table and the laws of its checksums (spec/40_crc.md R64 to R66). -/

namespace Sys2Proof.Machine

/-- Settles O21: the table holds the generator's iterations, and these are injective on the 256 bytes. -/
theorem crcStepIsTheTableLookup : Obligations.CrcStepIsTheTableLookup := by
  have htable : crcTableEntry = crcShifts 8 := funext fun t => (crcShifts_eq_crcTableEntry t).symm
  refine ⟨fun r d => crcShifts_eq_crcTableEntry (r ^^^ d), ?_, rfl⟩
  rw [htable]
  exact Finite.injective_iff_bijective.1 (crcShifts_injective 8)

/-- Settles O22: the last step ends at 0x00 exactly on its running value, the checksum so far. -/
theorem residueIsZeroExactlyForTheChecksum : Obligations.ResidueIsZeroExactlyForTheChecksum := by
  intro bs k
  rw [crc8_append, crc8From_cons, crc8From_nil, crc8Step_eq_zero_iff]

/-- Settles O23, one zero byte at a time. -/
theorem leadingZerosDoNotCount : Obligations.LeadingZerosDoNotCount := by
  intro n bs
  induction n with
  | zero => rfl
  | succ n ih => rw [List.replicate_succ, List.cons_append, crc8_zero_cons, ih]

/-- Settles O24: the fold is linear, and the initial value is the XOR of two of it. -/
theorem crcIsLinear : Obligations.CrcIsLinear := by
  intro bs cs hlen
  rw [crc8_eq_crc8From, crc8_eq_crc8From, crc8_eq_crc8From]
  exact crc8From_zipWith_xor hlen 0x00#8 0x00#8

/-- Settles O25: the two sequences differ in one byte. -/
theorem singleBitErrorChangesCrc : Obligations.SingleBitErrorChangesCrc := by
  intro pre post b j hj
  rw [List.append_assoc, List.append_assoc]
  exact crc8_ne_of_byte_ne pre post (xor_bit_ne b hj)

/-- Settles O26: the checksum of nine fixed bytes, computed. -/
theorem checkValueOfDigits : Obligations.CheckValueOfDigits := by
  unfold Obligations.CheckValueOfDigits
  decide +kernel

end Sys2Proof.Machine
end

section
/-! SUPPORT. Runs over encoded commands, and the exchange of a read: the request, then its response
(spec/30_encoding.md R53; spec/41_frame.md R72 to R80; spec/70_reset_and_hazards.md R125). -/

namespace Sys2Proof.Machine

/-! ### Runs -/

/-- The word of a command runs the command. -/
theorem execWord_encode (i : Instr) (s : State) : execWord (encode i) s = exec i s :=
  execWord_ok (decodeOfEncodeGivesTheCommand i) s

/-- A run over one word is the word's step. -/
theorem runWords_singleton (cw : Word) (s : State) : runWords [cw] s = execWord cw s := by
  obtain ⟨t, ht, _⟩ := execWord_completes cw s
  rw [runWords_cons [] ht, runWords_nil, ht]

/-- A run over a command and then other words is the run over the others from the state the command leaves. -/
theorem runWords_encode_cons {i : Instr} {s u : State} (ws : List Word) (h : exec i s = .next u) :
    runWords (encode i :: ws) s = runWords ws u :=
  runWords_cons ws ((execWord_encode i s).trans h)

/-- A run over CRC_BYTE commands feeds the bytes to the generator and changes nothing else. -/
theorem runWords_crcBytes (bs : List Byte) (s : State) :
    runWords (bs.map fun b => encode (.crcByte b)) s = .next { s with crc := crc8From s.crc bs } := by
  induction bs generalizing s with
  | nil => rfl
  | cons b bs ih => rw [List.map_cons, runWords_encode_cons _ rfl, ih]; rfl

/-- NOP, the CRC commands and illegal words, any number of them, change at most CRC and ILL. -/
theorem runWords_of_harmless {ws : List Word} (rest : List Word)
    (hws : ∀ w ∈ ws, decode w = .ok .nop ∨ decode w = .ok .crcClear ∨ (∃ d, decode w = .ok (.crcByte d)) ∨
      ∃ e, decode w = .error e) (s : State) :
    ∃ (r : Byte) (b : Bool), runWords (ws ++ rest) s = runWords rest { s with crc := r, ill := b } := by
  induction ws generalizing s with
  | nil => exact ⟨s.crc, s.ill, rfl⟩
  | cons w ws ih =>
    obtain ⟨hw, hws⟩ := List.forall_mem_cons.1 hws
    obtain ⟨r, b, hx⟩ := execWord_of_harmless s hw
    obtain ⟨r', b', hrun⟩ := ih hws { s with crc := r, ill := b }
    exact ⟨r', b', by rw [List.cons_append, runWords_cons _ hx, hrun]⟩

/-! ### The exchange of a read -/

/-- The state after ENC_READ. -/
def afterEncRead (c : Byte) (s : State) : State :=
  ((s.loadTx c 0x00#8 0x00#8 0x00#8 Config.readWriteLen Config.readReadLen).request c).succeed

theorem exec_encRead (c : Byte) (s : State) : exec (.encRead c) s = .next (afterEncRead c s) := rfl

section

variable (c : Byte) (s : State)

@[simp] theorem afterEncRead_pend : (afterEncRead c s).pend = true := rfl
@[simp] theorem afterEncRead_pendCmd : (afterEncRead c s).pendCmd = c := rfl
@[simp] theorem afterEncRead_devAddr : (afterEncRead c s).devAddr = s.devAddr := rfl
@[simp] theorem afterEncRead_value : (afterEncRead c s).value = s.value := rfl

/-- The run of a read is DEC_READ after ENC_READ. -/
theorem runWords_read (e : Bool) (l h k : Byte) :
    runWords [encode (.encRead c), encode (.decRead e l h k)] s = execDecRead e l h k (afterEncRead c s) := by
  rw [runWords_encode_cons _ (exec_encRead c s), runWords_singleton, execWord_encode]
  rfl

variable {l h k : Byte}

/-- A read whose checksum matches. -/
theorem runWords_read_of_match (hk : crc8 (readBuffer s.devAddr c l h) = k) :
    runWords [encode (.encRead c), encode (.decRead false l h k)] s =
      .next { afterEncRead c s with crc := k, pend := false, value := joinBytes h l, ok := true, cause := .none } := by
  rw [runWords_read, execDecRead_of_match (afterEncRead_pend c s) hk]

/-- A read whose checksum does not match. -/
theorem runWords_read_of_mismatch (hk : crc8 (readBuffer s.devAddr c l h) ≠ k) :
    runWords [encode (.encRead c), encode (.decRead false l h k)] s =
      .next { afterEncRead c s with
              crc := crc8 (readBuffer s.devAddr c l h), pend := false, ok := false, cause := .checksum } := by
  rw [runWords_read, execDecRead_of_mismatch (afterEncRead_pend c s) hk]
  rfl

end

/-- The halves of a value, joined, are the value (spec/20_memory.md R33). -/
theorem joinBytes_high_low (v : Value) : joinBytes (highByte v) (lowByte v) = v := by
  apply BitVec.eq_of_toNat_eq
  rw [joinBytes, toNat_append_eq_add, highByte_toNat, lowByte_toNat]
  omega

/-- Received value bytes that differ in one byte have different read checksums. -/
theorem crc8_readBuffer_ne {a : Addr} {c l h l' h' : Byte} (hne : (l ≠ l' ∧ h = h') ∨ (l = l' ∧ h ≠ h')) :
    crc8 (readBuffer a c l h) ≠ crc8 (readBuffer a c l' h') := by
  obtain ⟨hl, rfl⟩ | ⟨rfl, hh⟩ := hne
  · exact crc8_ne_of_byte_ne [addrWrite a, c, addrRead a] [h] hl
  · exact crc8_ne_of_byte_ne [addrWrite a, c, addrRead a, l] [] hh

/-- A byte put into a sequence keeps its checksum exactly when its step keeps the running value there. -/
theorem crc8_insert_eq_iff (pre post : List Byte) (b : Byte) :
    crc8 (pre ++ b :: post) = crc8 (pre ++ post) ↔ crc8Step (crc8 pre) b = crc8 pre := by
  rw [crc8_append, crc8_append, crc8From_cons]
  exact (crc8From_injective post).eq_iff

end Sys2Proof.Machine
end

section
/-! The statements about runs, frames and the exchange of a read (spec/30_encoding.md R53; spec/41_frame.md R73 to
R80; spec/70_reset_and_hazards.md R125). -/

namespace Sys2Proof.Machine

/-- Settles O27: after CRC_CLEAR the bytes are fed from the initial value, without it from the CRC found. -/
theorem crcStreamRun : Obligations.CrcStreamRun := by
  refine ⟨fun bs s => ?_, runWords_crcBytes⟩
  rw [runWords_encode_cons (u := s.setCrc 0x00#8) _ rfl, runWords_crcBytes, crc8_eq_crc8From]
  rfl

/-- Settles O31: the four paths of DEC_READ; a word of its row decodes to it, and the others of its opcode set a
reserved bit of format R. -/
theorem decReadResult : Obligations.DecReadResult := by
  refine ⟨fun e l h k s hp => execDecRead_of_noRequest hp, fun l h k s hp => execDecRead_of_transportFailure hp,
    fun l h k s hp hk => execDecRead_of_match hp hk, fun l h k s c hp hc hk => ?mismatch, fun cw hmatch => ?legal,
    fun cw s hop hset => ?illegal⟩
  case mismatch =>
    subst hc
    exact execDecRead_of_mismatch hp hk
  case legal => exact decode_of_matchesWord (r := opcodeMap[6]) (List.getElem_mem _) hmatch
  case illegal =>
    exact execWord_of_reservedBits (r := opcodeMap[6]) (List.getElem_mem _) hop (mt (reservedR_iff cw).1 hset) s

/-- Settles O34: ENC_WRITE stores the checksum of the buffer its bytes are sent from, and DEC_READ succeeds on the
checksum of the read buffer alone. -/
theorem frameChecksumCoversTheFrame : Obligations.FrameChecksumCoversTheFrame := by
  refine ⟨fun c v s => ⟨_, rfl, rfl⟩, fun e l h k s t hx hok => ?_⟩
  obtain ⟨_, _, hk⟩ := (execDecRead_ok_iff hx).1 hok
  exact hk.symm

/-- Settles O35: the response's checksum matches, and the value's halves join to it; a write leaves them in TX1, TX2. -/
theorem readReconstructsTheValue : Obligations.ReadReconstructsTheValue := by
  refine ⟨fun c v s => ?_, fun c v s => ?_⟩
  · exact ⟨_, runWords_read_of_match c s rfl, joinBytes_high_low v, rfl, rfl⟩
  · refine ⟨_, _, runWords_encode_cons [] rfl, runWords_read_of_match c _ rfl, ?_⟩
    exact congrArg (·, true) (joinBytes_high_low v)

/-- Settles O36: the checksum does not match. -/
theorem wrongChecksumByteIsDetected : Obligations.WrongChecksumByteIsDetected := by
  intro c l h k s hk
  exact ⟨_, runWords_read_of_mismatch c s hk.symm, rfl, rfl, rfl⟩

/-- Settles O37: the checksum as sent is that of other value bytes. -/
theorem singleBitDataErrorIsDetected : Obligations.SingleBitDataErrorIsDetected := by
  intro c l h l' h' j s hj hflip
  have hne : (l' ≠ l ∧ h' = h) ∨ (l' = l ∧ h' ≠ h) := by
    obtain ⟨rfl, hh⟩ | ⟨hl, rfl⟩ := hflip
    · exact .inl ⟨xor_bit_ne l hj, hh⟩
    · exact .inr ⟨hl, xor_bit_ne h hj⟩
  exact ⟨_, runWords_read_of_mismatch c s (crc8_readBuffer_ne hne), rfl, rfl, rfl⟩

/-- Settles O38: the encoders' wire bytes, read off their effect. -/
theorem addressBytesStayInside : Obligations.AddressBytesStayInside :=
  ⟨fun _ _ _ _ => ⟨_, _, rfl, rfl, rfl, rfl⟩, fun _ _ _ => ⟨_, _, rfl, rfl, rfl, rfl⟩⟩

/-- Settles O39: the two checksums go on over the same value bytes, from the running value with the read-direction
address byte and from that without it. -/
theorem echoedWriteChecksumIsAFixedPoint : Obligations.EchoedWriteChecksumIsAFixedPoint := by
  have hiff (a : Addr) (c l h : Byte) : crc8 [a ++ 0#1, c, a ++ 1#1, l, h] = crc8 [a ++ 0#1, c, l, h] ↔
      crc8Step (crc8 [a ++ 0#1, c]) (a ++ 1#1) = crc8 [a ++ 0#1, c] :=
    crc8_insert_eq_iff [a ++ 0#1, c] [l, h] (a ++ 1#1)
  exact ⟨hiff, fun l h => (hiff 0x0B#7 0x1A#8 l h).2 (by decide +kernel),
    fun l h => mt (hiff 0x0B#7 0x09#8 l h).1 (by decide +kernel)⟩

/-- Settles O40: DEC_READ leaves no request pending, and without one it is a sequence error. -/
theorem failedResponseIsFinal : Obligations.FailedResponseIsFinal := by
  intro e e' l h k l' h' k' s
  obtain ⟨t, ht⟩ := exec_completes (.decRead e l h k) s
  obtain ⟨hp, _⟩ := execDecRead_pend ht
  exact ⟨t, ht, hp, execDecRead_of_noRequest hp⟩

/-- Settles O41: the transport is given what the encoder loads, and a read's result is that of its path. -/
theorem readWordAndWriteWordCorrespond : Obligations.ReadWordAndWriteWordCorrespond := by
  refine ⟨fun c s => ⟨_, runWords_encode_cons [] rfl, rfl⟩, fun c v s => ⟨_, runWords_encode_cons [] rfl, rfl⟩,
    fun c l h k s => ?answered, fun c s => ?failed⟩
  case answered =>
    rw [readWordWords_answer]
    by_cases hk : crc8 (readBuffer s.devAddr c l h) = k
    · exact ⟨_, runWords_read_of_match c s hk, (if_pos hk).symm⟩
    · exact ⟨_, runWords_read_of_mismatch c s hk, (if_neg hk).symm⟩
  case failed =>
    rw [readWordWords_failed, runWords_read, execDecRead_of_transportFailure (afterEncRead_pend c s)]
    exact ⟨_, rfl, rfl⟩

/-- Settles O57: the words between change CRC and ILL at most, and DEC_READ's checksum reads neither. -/
theorem requestSurvivesHarmlessWords : Obligations.RequestSurvivesHarmlessWords := by
  intro c l h k ws s hws hk
  obtain ⟨r, b, hrun⟩ := runWords_of_harmless [encode (.decRead false l h k)] hws (afterEncRead c s)
  rw [runWords_encode_cons _ (exec_encRead c s), hrun, runWords_singleton, execWord_encode]
  exact ⟨_, execDecRead_of_match (s := { afterEncRead c s with crc := r, ill := b }) rfl hk.symm, rfl, rfl, rfl⟩

/-- Settles O58: either command leaves no request pending and VALUE as it was. -/
theorem cancelledRequestIsASequenceError : Obligations.CancelledRequestIsASequenceError := by
  intro c i e l h k s hi
  obtain ⟨u, hu, hp, hv⟩ : ∃ u, exec i (afterEncRead c s) = .next u ∧ u.pend = false ∧ u.value = s.value := by
    obtain ⟨c', v, rfl⟩ | ⟨a, rfl⟩ := hi <;> exact ⟨_, rfl, rfl, rfl⟩
  refine ⟨u, _, ?_, ?_, rfl, hv⟩
  · rw [runWords_encode_cons _ (exec_encRead c s), runWords_encode_cons [] hu, runWords_nil]
  · rw [runWords_singleton, execWord_encode]
    exact execDecRead_of_noRequest hp

end Sys2Proof.Machine
end

section
/-! SUPPORT. Register by register, which commands can change it: the facts the statements about the inventory, the
error conditions and the invariants are assembled from (spec/10_state.md R10 to R20). -/

namespace Sys2Proof.Machine

variable {i : Instr} {s t : State}

/-! ### What DEC_READ leaves -/

/-- DEC_READ leaves the transmit buffer and both lengths. -/
theorem execDecRead_keeps_transmit {e : Bool} {l h k : Byte} (hx : execDecRead e l h k s = .next t) :
    t.txLen = s.txLen ∧ t.rxLen = s.rxLen ∧ t.tx0 = s.tx0 ∧ t.tx1 = s.tx1 ∧ t.tx2 = s.tx2 ∧ t.tx3 = s.tx3 := by
  obtain ⟨_, rfl⟩ | ⟨_, _, rfl⟩ | ⟨_, _, _, rfl⟩ | ⟨_, _, _, rfl⟩ := execDecRead_cases hx <;>
    exact ⟨rfl, rfl, rfl, rfl, rfl, rfl⟩

/-- DEC_READ computes a checksum only for a pending request without transport failure. -/
theorem execDecRead_of_crc_ne {e : Bool} {l h k : Byte} (hx : execDecRead e l h k s = .next t)
    (hne : t.crc ≠ s.crc) : e = false ∧ s.pend = true := by
  obtain ⟨_, rfl⟩ | ⟨_, _, rfl⟩ | ⟨hp, he, _, _⟩ | ⟨hp, he, _, _⟩ := execDecRead_cases hx
  · exact absurd rfl hne
  · exact absurd rfl hne
  · exact ⟨he, hp⟩
  · exact ⟨he, hp⟩

/-- DEC_READ changes VALUE only where it succeeds. -/
theorem execDecRead_of_value_ne {e : Bool} {l h k : Byte} (hx : execDecRead e l h k s = .next t)
    (hne : t.value ≠ s.value) : t.ok = true ∧ e = false := by
  have hok : t.ok = true := by
    by_contra hok
    exact hne ((execDecRead_value hx).2 (by simpa using hok))
  obtain ⟨_, he, _⟩ := (execDecRead_ok_iff hx).1 hok
  exact ⟨hok, he⟩

/-! ### Which command changes a register -/

/-- A command that changes CRC is one of the generator's, ENC_WRITE, or a DEC_READ that computes a checksum. -/
theorem exec_of_crc_ne (hx : exec i s = .next t) (hne : t.crc ≠ s.crc) :
    i = .crcClear ∨ (∃ d, i = .crcByte d) ∨ (∃ c v, i = .encWrite c v) ∨
      ∃ l h k, i = .decRead false l h k ∧ s.pend = true := by
  cases i with
  | crcClear => exact .inl rfl
  | crcByte d => exact .inr (.inl ⟨d, rfl⟩)
  | encWrite c v => exact .inr (.inr (.inl ⟨c, v, rfl⟩))
  | decRead e l h k =>
    obtain ⟨rfl, hp⟩ := execDecRead_of_crc_ne hx hne
    exact .inr (.inr (.inr ⟨l, h, k, rfl, hp⟩))
  | _ => cases hx; exact absurd rfl hne

/-- A command that changes OK or CAUSE is a frame command other than SET_ADDR. -/
theorem exec_of_result_ne (hx : exec i s = .next t) (hne : t.ok ≠ s.ok ∨ t.cause ≠ s.cause) :
    (∃ c v, i = .encWrite c v) ∨ (∃ c, i = .encRead c) ∨ ∃ e l h k, i = .decRead e l h k := by
  cases i with
  | encWrite c v => exact .inl ⟨c, v, rfl⟩
  | encRead c => exact .inr (.inl ⟨c, rfl⟩)
  | decRead e l h k => exact .inr (.inr ⟨e, l, h, k, rfl⟩)
  | _ => cases hx; exact absurd ⟨rfl, rfl⟩ (not_and_or.2 hne)

/-- ENC_READ alone sets PEND; SET_ADDR, ENC_WRITE and DEC_READ clear it. -/
theorem exec_of_pend_ne (hx : exec i s = .next t) (hne : t.pend ≠ s.pend) :
    if t.pend then ∃ c, i = .encRead c else
      (∃ a, i = .setAddr a) ∨ (∃ c v, i = .encWrite c v) ∨ ∃ e l h k, i = .decRead e l h k := by
  cases i with
  | setAddr a => cases hx; exact .inl ⟨a, rfl⟩
  | encWrite c v => cases hx; exact .inr (.inl ⟨c, v, rfl⟩)
  | encRead c => cases hx; exact ⟨c, rfl⟩
  | decRead e l h k =>
    rw [(execDecRead_pend hx).1]
    exact .inr (.inr ⟨e, l, h, k, rfl⟩)
  | _ => cases hx; exact absurd rfl hne

/-- A command that is no encoder leaves the transmit buffer and both lengths. -/
theorem exec_keeps_transmit (hx : exec i s = .next t) (hw : ∀ c v, i ≠ .encWrite c v) (hr : ∀ c, i ≠ .encRead c) :
    t.txLen = s.txLen ∧ t.rxLen = s.rxLen ∧ t.tx0 = s.tx0 ∧ t.tx1 = s.tx1 ∧ t.tx2 = s.tx2 ∧ t.tx3 = s.tx3 := by
  cases i with
  | encWrite c v => exact absurd rfl (hw c v)
  | encRead c => exact absurd rfl (hr c)
  | decRead e l h k => exact execDecRead_keeps_transmit hx
  | _ => cases hx; exact ⟨rfl, rfl, rfl, rfl, rfl, rfl⟩

/-- A command that changes the transmit buffer or a length is an encoder. -/
theorem exec_of_transmit_ne (hx : exec i s = .next t)
    (hne : t.txLen ≠ s.txLen ∨ t.rxLen ≠ s.rxLen ∨ t.tx0 ≠ s.tx0 ∨ t.tx1 ≠ s.tx1 ∨ t.tx2 ≠ s.tx2 ∨ t.tx3 ≠ s.tx3) :
    (∃ c v, i = .encWrite c v) ∨ ∃ c, i = .encRead c := by
  by_contra hnot
  push Not at hnot
  obtain ⟨hlen, hrx, h0, h1, h2, h3⟩ := exec_keeps_transmit hx hnot.1 hnot.2
  simp [hlen, hrx, h0, h1, h2, h3] at hne

/-- A command that changes VALUE is a DEC_READ that succeeds. -/
theorem exec_of_value_ne (hx : exec i s = .next t) (hne : t.value ≠ s.value) :
    t.ok = true ∧ ∃ l h k, i = .decRead false l h k := by
  cases i with
  | decRead e l h k =>
    obtain ⟨hok, rfl⟩ := execDecRead_of_value_ne hx hne
    exact ⟨hok, l, h, k, rfl⟩
  | _ => cases hx; exact absurd rfl hne

/-- A command that changes PEND_CMD is ENC_READ. -/
theorem exec_of_pendCmd_ne (hx : exec i s = .next t) (hne : t.pendCmd ≠ s.pendCmd) : ∃ c, i = .encRead c := by
  cases i with
  | encRead c => exact ⟨c, rfl⟩
  | decRead e l h k => exact absurd (execDecRead_pend hx).2 hne
  | _ => cases hx; exact absurd rfl hne

/-- A command that ends with OK = 0 leaves OK and CAUSE, or is a DEC_READ on one of its failing paths
(spec/60_exceptions.md R101). -/
theorem exec_of_not_ok (hx : exec i s = .next t) (hok : t.ok = false) :
    (s.ok = false ∧ t.cause = s.cause) ∨
      ∃ e l h k, i = .decRead e l h k ∧
        ((s.pend = false ∧ t.cause = .sequence) ∨
          (s.pend = true ∧ e = true ∧ t.cause = .xfer ∧ t.pend = false) ∨
          (s.pend = true ∧ e = false ∧ t.cause = .checksum ∧ t.pend = false ∧
            crc8 (readBuffer s.devAddr s.pendCmd l h) = t.crc ∧ t.crc ≠ k)) := by
  cases i with
  | encWrite c v => cases hx; exact Bool.noConfusion hok
  | encRead c => cases hx; exact Bool.noConfusion hok
  | decRead e l h k =>
    refine .inr ⟨e, l, h, k, rfl, ?_⟩
    obtain ⟨hp, rfl⟩ | ⟨hp, he, rfl⟩ | ⟨_, _, _, rfl⟩ | ⟨hp, he, hk, rfl⟩ := execDecRead_cases hx
    · exact .inl ⟨hp, rfl⟩
    · exact .inr (.inl ⟨hp, he, rfl, rfl⟩)
    · exact Bool.noConfusion hok
    · exact .inr (.inr ⟨hp, he, rfl, rfl, rfl, hk⟩)
  | _ => cases hx; exact .inl ⟨hok, rfl⟩

end Sys2Proof.Machine
end

section
/-! The statements about the inventory, the error conditions and the transmit buffer, and two about the composed bytes
(spec/10_state.md R10, R13; spec/20_memory.md R33; spec/60_exceptions.md R101; spec/70_reset_and_hazards.md R126). -/

namespace Sys2Proof.Machine

/-- Settles O43: an illegal word changes ILL alone, and a command changes each register by that register's lemma. -/
theorem everyRegisterHasOnlyItsWriters : Obligations.EveryRegisterHasOnlyItsWriters := by
  intro cw s t hx
  obtain ⟨i, hd, hi⟩ | ⟨e, hd, rfl⟩ := execWord_cases hx
  · simp only [hd, Except.ok.injEq]
    exact ⟨exec_of_crc_ne hi, fun hne => ⟨_, exec_eq_setAddr_of_devAddr_ne hi hne⟩, exec_of_result_ne hi,
      exec_of_pend_ne hi, fun hne => absurd (exec_keeps_ill hi) hne, exec_of_transmit_ne hi, exec_of_value_ne hi,
      exec_of_pendCmd_ne hi⟩
  · simp [hd]

/-- Settles O33: a command fails on one of DEC_READ's failing paths, and only an illegal word sets ILL. -/
theorem errorConditionsAreComplete : Obligations.ErrorConditionsAreComplete := by
  intro cw s t hx
  refine ⟨fun hok => ?result, fun hill hclear => ?ill⟩
  case result =>
    obtain ⟨i, hd, hi⟩ | ⟨e, hd, rfl⟩ := execWord_cases hx
    · simp only [hd, Except.ok.injEq]
      exact exec_of_not_ok hi hok
    · exact .inl ⟨hok, rfl⟩
  case ill =>
    obtain hset | herr := (execWord_ill_iff hx).1 hill
    · rw [hset] at hclear
      exact Bool.noConfusion hclear
    · exact (illegalWord_iff_decode_error cw).2 herr

/-- Settles O52: what is handed to the transport is made of the transmit buffer and the lengths. -/
theorem transmitBufferOutlivesOtherCommands : Obligations.TransmitBufferOutlivesOtherCommands := by
  intro cw s hw hr
  obtain ⟨t, hx, _⟩ := execWord_completes cw s
  obtain ⟨htx, hrx, h0, h1, h2, h3⟩ : t.txLen = s.txLen ∧ t.rxLen = s.rxLen ∧ t.tx0 = s.tx0 ∧ t.tx1 = s.tx1 ∧
      t.tx2 = s.tx2 ∧ t.tx3 = s.tx3 := by
    obtain ⟨i, hd, hi⟩ | ⟨e, _, rfl⟩ := execWord_cases hx
    · exact exec_keeps_transmit hi (fun c v hc => hw c v (hc ▸ hd)) fun c hc => hr c (hc ▸ hd)
    · exact ⟨rfl, rfl, rfl, rfl, rfl, rfl⟩
  have hcall : transportCall t.toRegs = transportCall s.toRegs := by
    simp only [transportCall, wireBytes, htx, hrx, h0, h1, h2, h3]
  exact ⟨t, hx, hcall, htx, hrx, h0, h1, h2, h3⟩

/-- Settles O45: the two reads are the halves of VALUE. -/
theorem valueHalvesDoNotTear : Obligations.ValueHalvesDoNotTear := fun r => joinBytes_high_low r.value

/-- Settles O46: an address byte is the address above its direction bit. -/
theorem addressBytesAreTheDoubledAddress : Obligations.AddressBytesAreTheDoubledAddress := by
  intro a
  have hwrite : (addrWrite a).toNat = 2 * a.toNat := by
    rw [addrWrite, toNat_append_eq_add, mul_comm]
    rfl
  have hread : (addrRead a).toNat = 2 * a.toNat + 1 := by
    rw [addrRead, toNat_append_eq_add, mul_comm]
    rfl
  have hor : addrRead a = addrWrite a ||| 0x01#8 := by
    have hbits : a ++ 0#1 ||| 0#7 ++ 1#1 = a ++ 1#1 := by rw [BitVec.or_append, BitVec.or_zero, BitVec.zero_or]
    exact hbits.symm
  exact ⟨hwrite, by omega, hor, hread⟩

end Sys2Proof.Machine
end

section
/-! SUPPORT. The two relations between the registers, through each update that a step can make (spec/10_state.md R16
to R20; spec/41_frame.md R74). -/

namespace Sys2Proof.Machine

/-! ### The register relations -/

/-- They hold of the reset registers, whatever the host is going to present. -/
theorem inv_reset (ps : List PortInput) : Inv { Regs.reset with inputs := ps } where
  okHasNoCause := fun hok => Bool.noConfusion hok
  lengths := .inl ⟨rfl, rfl⟩
  noStaleTx := ⟨fun _ => rfl, fun _ => rfl, fun _ => rfl, fun _ => rfl⟩
  pendingIsLast := fun hp => Bool.noConfusion hp
  freshFailure := fun _ _ => ⟨rfl, rfl, rfl, rfl⟩
  noFrame := fun _ => ⟨rfl, rfl, rfl⟩

/-- They do not read CRC, DEV_ADDR, ILL or the host's list. -/
theorem Inv.update_unrelated {s : State} (hs : Inv s) (r : Byte) (a : Addr) (b : Bool) (ps : List PortInput) :
    Inv { s with crc := r, devAddr := a, ill := b, inputs := ps } :=
  ⟨hs.okHasNoCause, hs.lengths, hs.noStaleTx, hs.pendingIsLast, hs.freshFailure, hs.noFrame⟩

/-- Cancelling the request keeps them. -/
theorem Inv.cancel {s : State} (hs : Inv s) : Inv (s.setPend false) where
  okHasNoCause := hs.okHasNoCause
  lengths := hs.lengths
  noStaleTx := hs.noStaleTx
  pendingIsLast := fun hp => Bool.noConfusion hp
  freshFailure := fun hok hcause =>
    have ⟨hlen, _, hvalue, hcmd⟩ := hs.freshFailure hok hcause
    ⟨hlen, rfl, hvalue, hcmd⟩
  noFrame := fun hlen =>
    have ⟨_, hvalue, hcmd⟩ := hs.noFrame hlen
    ⟨rfl, hvalue, hcmd⟩

/-- A failure with a cause keeps them where no request is pending. -/
theorem Inv.fail {s : State} (hs : Inv s) (hp : s.pend = false) {cause : Cause} (hcause : cause ≠ .none) :
    Inv (s.fail cause) where
  okHasNoCause := fun hok => Bool.noConfusion hok
  lengths := hs.lengths
  noStaleTx := hs.noStaleTx
  pendingIsLast := fun hpend => absurd (hp.symm.trans hpend) Bool.false_ne_true
  freshFailure := fun _ hnone => absurd hnone hcause
  noFrame := hs.noFrame

/-- A taken value keeps them where a frame is in the transmit buffer. -/
theorem Inv.receive {s : State} (hs : Inv s) (hlen : s.txLen = 1#3) (v : Value) :
    Inv (((s.setPend false).setValue v).succeed) where
  okHasNoCause := fun _ => rfl
  lengths := hs.lengths
  noStaleTx := hs.noStaleTx
  pendingIsLast := fun hp => Bool.noConfusion hp
  freshFailure := fun hok => Bool.noConfusion hok
  noFrame := fun hnone => absurd (hlen.symm.trans hnone) (by decide)

/-- A frame of four bytes leaves no transmit byte unused. -/
theorem noStaleTxByte_of_four {r : Regs} (hlen : r.txLen = 4#3) : NoStaleTxByte r := by simp [NoStaleTxByte, hlen]

/-- They hold after ENC_WRITE. -/
theorem inv_encWrite {s t : State} {c : Byte} {v : Value} (hx : exec (.encWrite c v) s = .next t) : Inv t := by
  cases hx
  exact
    { okHasNoCause := fun _ => rfl
      lengths := .inr (.inl ⟨rfl, rfl⟩)
      noStaleTx := noStaleTxByte_of_four rfl
      pendingIsLast := fun hp => Bool.noConfusion hp
      freshFailure := fun hok => Bool.noConfusion hok
      noFrame := fun hlen => absurd (show 4#3 = 0#3 from hlen) (by decide) }

/-- They hold after ENC_READ. -/
theorem inv_afterEncRead (c : Byte) (s : State) : Inv (afterEncRead c s) where
  okHasNoCause := fun _ => rfl
  lengths := .inr (.inr ⟨rfl, rfl⟩)
  noStaleTx := ⟨fun hlen => absurd (show 1 ≤ 0 from hlen) (by decide), fun _ => rfl, fun _ => rfl, fun _ => rfl⟩
  pendingIsLast := fun _ => ⟨rfl, rfl, rfl⟩
  freshFailure := fun hok => Bool.noConfusion hok
  noFrame := fun hlen => absurd (show 1#3 = 0#3 from hlen) (by decide)

/-- DEC_READ keeps them on each of its paths. -/
theorem Inv.of_execDecRead {e : Bool} {l h k : Byte} {s t : State} (hs : Inv s)
    (hx : execDecRead e l h k s = .next t) : Inv t := by
  obtain ⟨hp, rfl⟩ | ⟨_, _, rfl⟩ | ⟨hp, _, _, rfl⟩ | ⟨_, _, _, rfl⟩ := execDecRead_cases hx
  · exact hs.fail hp (by decide)
  · exact hs.cancel.fail rfl (by decide)
  · exact (hs.receive (hs.pendingIsLast hp).1 (joinBytes h l)).update_unrelated k s.devAddr s.ill s.inputs
  · exact (hs.cancel.fail rfl (by decide)).update_unrelated _ s.devAddr s.ill s.inputs

/-- Every command keeps them. -/
theorem Inv.of_exec {i : Instr} {s t : State} (hs : Inv s) (hx : exec i s = .next t) : Inv t := by
  cases i with
  | nop => cases hx; exact hs
  | crcClear => cases hx; exact hs.update_unrelated _ s.devAddr s.ill s.inputs
  | crcByte d => cases hx; exact hs.update_unrelated _ s.devAddr s.ill s.inputs
  | setAddr a => cases hx; exact hs.cancel.update_unrelated s.crc a s.ill s.inputs
  | encWrite c v => exact inv_encWrite hx
  | encRead c => cases hx; exact inv_afterEncRead c s
  | decRead e l h k => exact hs.of_execDecRead hx

/-! ### The write frame's checksum -/

/-- Every command keeps it: ENC_WRITE computes it at the DEV_ADDR it finds, ENC_READ's frame has one byte, and the
others leave the buffer. -/
theorem writeFrameChecked_exec {i : Instr} {s t : State} (hs : WriteFrameChecked s.toRegs) (hx : exec i s = .next t) :
    WriteFrameChecked t.toRegs := by
  by_cases hw : ∃ c v, i = .encWrite c v
  · obtain ⟨c, v, rfl⟩ := hw
    cases hx
    exact fun _ => ⟨s.devAddr, rfl⟩
  by_cases hr : ∃ c, i = .encRead c
  · obtain ⟨c, rfl⟩ := hr
    cases hx
    exact fun hlen => absurd (show 1#3 = 4#3 from hlen) (by decide)
  push Not at hw hr
  obtain ⟨htx, _, h0, h1, h2, h3⟩ := exec_keeps_transmit hx hw hr
  rwa [WriteFrameChecked, htx, h0, h1, h2, h3]

/-! ### Steps -/

/-- A relation that reset establishes, and that commands, ILL and the host's list keep, is kept by every step. -/
theorem step_preserves {P : State → Prop} (hreset : ∀ ps, P { Regs.reset with inputs := ps })
    (hinputs : ∀ s ps, P s → P { s with inputs := ps }) (hill : ∀ s, P s → P s.setIll)
    (hexec : ∀ i s t, P s → exec i s = .next t → P t) {s t : State} (hs : P s) (hstep : step s = .next t) : P t := by
  have hdrop : P s.dropInput := hinputs s s.inputs.tail hs
  obtain ⟨_, hn⟩ | ⟨_, hn⟩ | ⟨cw, _, hn⟩ := step_cases s
  · rw [hn] at hstep
    cases hstep
    exact hdrop
  · rw [hn] at hstep
    cases hstep
    exact hreset s.inputs.tail
  · rw [hn] at hstep
    obtain ⟨i, _, hi⟩ | ⟨e, _, rfl⟩ := execWord_cases hstep
    · exact hexec i _ t hdrop hi
    · exact hill _ hdrop

end Sys2Proof.Machine
end

section
/-! The statements about what every step keeps (spec/10_state.md R16 to R20; spec/41_frame.md R73, R74). -/

namespace Sys2Proof.Machine

/-- Settles O53: each relation at the reset values. -/
theorem registerRelationsHoldAtReset : Obligations.RegisterRelationsHoldAtReset := inv_reset []

/-- Settles O54: reset establishes the relations, and every command keeps them. -/
theorem everyStepKeepsRegisterRelations : Obligations.EveryStepKeepsRegisterRelations := fun _ _ =>
  step_preserves inv_reset (fun s ps hs => hs.update_unrelated s.crc s.devAddr s.ill ps)
    (fun s hs => hs.update_unrelated s.crc s.devAddr true s.inputs) fun _ _ _ hs hx => hs.of_exec hx

/-- Settles O55: reset empties the buffer, and every command keeps the relation. -/
theorem everyStepKeepsWriteFrameChecked : Obligations.EveryStepKeepsWriteFrameChecked := fun _ _ =>
  step_preserves (P := fun s => WriteFrameChecked s.toRegs) (fun _ hlen => absurd (show 0#3 = 4#3 from hlen) (by decide))
    (fun _ _ hs => hs) (fun _ hs => hs) fun _ _ _ => writeFrameChecked_exec

/-- Settles O56: reset leaves no request pending, and the only command that changes DEV_ADDR cancels it. -/
theorem pendingRequestKeepsItsAddress : Obligations.PendingRequestKeepsItsAddress := by
  intro s t hstep hne
  obtain ⟨_, hn⟩ | ⟨_, hn⟩ | ⟨cw, _, hn⟩ := step_cases s
  · rw [hn] at hstep
    cases hstep
    exact absurd rfl hne
  · rw [hn] at hstep
    cases hstep
    rfl
  · rw [hn] at hstep
    obtain ⟨i, _, hi⟩ | ⟨e, _, rfl⟩ := execWord_cases hstep
    · obtain ⟨a, rfl⟩ : ∃ a, i = .setAddr a := ⟨_, exec_eq_setAddr_of_devAddr_ne hi hne⟩
      cases hi
      rfl
    · exact absurd rfl hne

end Sys2Proof.Machine
end
